-- ==== Sys2Proof/Word.lean ====
section
/-! DEFINITION. The word types of the gate: what the manual counts in bits and sends as bytes.
Slots and descriptor numbers are indexes of fixed pools (R19, R76), so they are bounded numbers. -/

namespace Sys2Proof

/-- One byte on the trunk or a lane. -/
abbrev Byte := BitVec 8

/-- A 16-bit tag, the field at offset 2 of a frame (section 11.1). -/
abbrev Tag := BitVec 16

/-- A 48-bit gate time in clock units, wrapping modulo 2^48 (conventions, R57). -/
abbrev Time := BitVec 48

/-- A 32-bit counter that wraps without saturating (conventions). -/
abbrev Counter := BitVec 32

/-- A slot of the Stream Table, 0 to 63 (R19). -/
abbrev Slot := Fin 64

/-- A descriptor of the Hold Buffer's pool, 0 to 255 (R76). -/
abbrev DescNo := Fin 256

end Sys2Proof
end

