-- ==== Sys2Proof/Syntax.lean ====
section
/-! DEFINITION. The commands of the gate: one constructor of `Instr` for each row of the operation table, with the
operands the manual gives it. Requests (chapter "The Management Agent") have a typed body of their own, `Request`,
because they also arrive as bytes inside REQUEST frames. -/

namespace Sys2Proof

/-- The two output lanes (chapter "Release and the Egress Lanes"). -/
inductive Lane where
  | a
  | b
deriving DecidableEq, Repr

/-- The envelope of a request (section 8.1): who asks, under which transaction number, and whether the frame was
addressed to all gates (R134). -/
structure Sender where
  manager : Byte
  txn : BitVec 16
  allGates : Bool
deriving DecidableEq, Repr

/-- The 16 operand bytes of STAGE-ENTRY, field by field as received (section 11.3): any value may stand in any
field, and R120 judges them. -/
structure EntryOperands where
  slot : Byte
  state : Byte
  tag : Tag
  lanes : Byte
  timing : Byte
  holdOffset : BitVec 32
  latePolicy : Byte
  errorPolicy : Byte
  stamping : Byte
  continuity : Byte
  holdQuota : Byte
  resetContinuity : Byte
deriving DecidableEq, Repr

/-- The 6 operand bytes of ARM-TRAP, field by field as received (section 11.2). -/
structure TrapOperands where
  tagSelect : Byte
  tag : Tag
  kind : Byte
  condition : Byte
  mode : Byte
deriving DecidableEq, Repr

/-- The requests of section 8.5 with their operands as received (section 11.2). -/
inductive Request where
  | readStatus
  | readEntry (slot : Byte)
  | findTag (tag : Tag)
  | readCounters (scope slot clear : Byte)
  | readStaged (index : Byte)
  | readParam (id : Byte)
  | readTime
  | readTrap (offset : BitVec 16)
  | stageEntry (e : EntryOperands)
  | stageRetire (slot : Byte)
  | unstage (slot : Byte)
  | discardStaged
  | commit
  | commitAt (t : Time)
  | cancelCommit
  | setParam (id : Byte) (value : BitVec 32)
  | timeSet (value : Time)
  | laneBlock (lane : Byte)
  | laneResume (lane : Byte)
  | flush
  | restart
  | armTrap (ops : TrapOperands)
  | disarmTrap
  | ackNotices (n : BitVec 16)
deriving DecidableEq, Repr

/-- The commands: one constructor for each row of the operation table, in the table's order. The events of pins,
of the trunk decoder, of the lanes and of the timers carry what identifies the event (a lane, a byte, a record);
the request rows carry the request's envelope and operands. -/
inductive Instr where
  | powerOn (straps : Byte)
  | resetNAsserted
  | resetNReleased (straps : Byte)
  | signalPresent
  | lossOfSignal
  | lossOfAlignment
  | invalidCodeGroup
  | idleTimerExpiry
  | startDelimiter
  | dataByte (b : Byte)
  | endDelimiter
  | waitAsserted (lane : Lane)
  | waitReleased (lane : Lane)
  | stallTimerExpiry (lane : Lane)
  | laneSendStart (lane : Lane)
  | laneSendEnd (lane : Lane)
  | slewIntervalExpiry
  | holdoverTimerExpiry
  | scheduledCommit
  | stagingTimerExpiry
  | retryTimerExpiry (sequence : BitVec 16)
  | workIntervalEnd
  | badRequest (m : Sender) (code : Byte) (operands : List Byte)
  | readStatus (m : Sender)
  | readEntry (m : Sender) (slot : Byte)
  | findTag (m : Sender) (tag : Tag)
  | readCountersSlot (m : Sender) (slot clear : Byte)
  | readCountersGlobal (m : Sender) (slot clear : Byte)
  | readStaged (m : Sender) (index : Byte)
  | readParam (m : Sender) (id : Byte)
  | readTime (m : Sender)
  | readTrap (m : Sender) (offset : BitVec 16)
  | stageEntry (m : Sender) (e : EntryOperands)
  | stageRetire (m : Sender) (slot : Byte)
  | unstage (m : Sender) (slot : Byte)
  | discardStaged (m : Sender)
  | commit (m : Sender)
  | commitAt (m : Sender) (t : Time)
  | cancelCommit (m : Sender)
  | setParam (m : Sender) (id : Byte) (value : BitVec 32)
  | setParamReplyLane (m : Sender) (value : BitVec 32)
  | setParamNoticeLane (m : Sender) (value : BitVec 32)
  | setParamNoticeDestination (m : Sender) (value : BitVec 32)
  | setParamNoticeRetryInterval (m : Sender) (value : BitVec 32)
  | setParamStepThreshold (m : Sender) (value : BitVec 32)
  | setParamHoldoverTimeout (m : Sender) (value : BitVec 32)
  | setParamLaneStallLimit (m : Sender) (value : BitVec 32)
  | setParamStagingTimeout (m : Sender) (value : BitVec 32)
  | timeSet (m : Sender) (value : Time)
  | laneBlock (m : Sender) (lane : Byte)
  | laneResume (m : Sender) (lane : Byte)
  | flush (m : Sender)
  | restart (m : Sender)
  | armTrap (m : Sender) (ops : TrapOperands)
  | disarmTrap (m : Sender)
  | ackNotices (m : Sender) (n : BitVec 16)
  | releaseTimeComing (lane : Lane)
deriving DecidableEq, Repr

end Sys2Proof
end

