-- ==== Sys2Proof/Decode.lean ====
section
/-! DEFINITION. The byte forms: multi-byte fields most significant byte first (section 11), the header of a trunk
frame, and the decoding and encoding of request payloads (section 11.2). The operation table gives its rows no bits,
so no table word spells a command. -/

namespace Sys2Proof

/-- A byte of a small number. -/
def byteOf (n : Nat) : Byte := BitVec.ofNat 8 n

/-- Two bytes, most significant first (conventions, "Numbers"). -/
def bytes16 (v : BitVec 16) : List Byte := [v.extractLsb' 8 8, v.extractLsb' 0 8]

/-- Four bytes, most significant first. -/
def bytes32 (v : BitVec 32) : List Byte :=
  [v.extractLsb' 24 8, v.extractLsb' 16 8, v.extractLsb' 8 8, v.extractLsb' 0 8]

/-- Six bytes, most significant first. -/
def bytes48 (v : BitVec 48) : List Byte :=
  [v.extractLsb' 40 8, v.extractLsb' 32 8, v.extractLsb' 24 8, v.extractLsb' 16 8, v.extractLsb' 8 8,
    v.extractLsb' 0 8]

/-- The 16-bit field that two bytes carry. -/
def join16 (b1 b0 : Byte) : BitVec 16 := b1 ++ b0

/-- The 32-bit field that four bytes carry. -/
def join32 (b3 b2 b1 b0 : Byte) : BitVec 32 := b3 ++ b2 ++ b1 ++ b0

/-- The 48-bit field that six bytes carry. -/
def join48 (b5 b4 b3 b2 b1 b0 : Byte) : BitVec 48 := b5 ++ b4 ++ b3 ++ b2 ++ b1 ++ b0

/-- The header fields of a trunk frame as received (section 11.1): no check is made here. -/
structure Header where
  kind : Byte
  flags : Byte
  tag : Tag
  sequence : BitVec 16
  payloadLength : BitVec 16
  originTime : Time
deriving DecidableEq, Repr

/-- The header that the first 14 bytes of a frame carry; none of fewer bytes (R9, section 11.1). -/
def decodeHeader : List Byte → Option Header
  | k :: f :: t1 :: t0 :: s1 :: s0 :: p1 :: p0 :: o5 :: o4 :: o3 :: o2 :: o1 :: o0 :: _ =>
    some
      { kind := k
        flags := f
        tag := join16 t1 t0
        sequence := join16 s1 s0
        payloadLength := join16 p1 p0
        originTime := join48 o5 o4 o3 o2 o1 o0 }
  | _ => none

/-- The 14 bytes of a header (section 11.1). -/
def encodeHeader (h : Header) : List Byte :=
  [h.kind, h.flags] ++ bytes16 h.tag ++ bytes16 h.sequence ++ bytes16 h.payloadLength ++ bytes48 h.originTime

/-- The request code of each request (section 11.2). -/
def Request.code : Request → Byte
  | .readStatus => 0x01
  | .readEntry _ => 0x02
  | .findTag _ => 0x03
  | .readCounters _ _ _ => 0x04
  | .readStaged _ => 0x05
  | .readParam _ => 0x06
  | .readTime => 0x07
  | .readTrap _ => 0x08
  | .stageEntry _ => 0x10
  | .stageRetire _ => 0x11
  | .unstage _ => 0x12
  | .discardStaged => 0x13
  | .commit => 0x14
  | .commitAt _ => 0x15
  | .cancelCommit => 0x16
  | .setParam _ _ => 0x20
  | .timeSet _ => 0x21
  | .laneBlock _ => 0x22
  | .laneResume _ => 0x23
  | .flush => 0x24
  | .restart => 0x25
  | .armTrap _ => 0x30
  | .disarmTrap => 0x31
  | .ackNotices _ => 0x32

/-- The 16 bytes of a staged change as received (section 11.3). -/
def encodeEntryOperands (e : EntryOperands) : List Byte :=
  [e.slot, e.state] ++ bytes16 e.tag ++ [e.lanes, e.timing] ++ bytes32 e.holdOffset ++
    [e.latePolicy, e.errorPolicy, e.stamping, e.continuity, e.holdQuota, e.resetContinuity]

/-- The operand bytes of each request, in order (section 11.2). -/
def Request.operands : Request → List Byte
  | .readStatus => []
  | .readEntry slot => [slot]
  | .findTag tag => bytes16 tag
  | .readCounters scope slot clear => [scope, slot, clear]
  | .readStaged index => [index]
  | .readParam id => [id]
  | .readTime => []
  | .readTrap offset => bytes16 offset
  | .stageEntry e => encodeEntryOperands e
  | .stageRetire slot => [slot]
  | .unstage slot => [slot]
  | .discardStaged => []
  | .commit => []
  | .commitAt t => bytes48 t
  | .cancelCommit => []
  | .setParam id value => id :: bytes32 value
  | .timeSet value => bytes48 value
  | .laneBlock lane => [lane]
  | .laneResume lane => [lane]
  | .flush => []
  | .restart => []
  | .armTrap o => o.tagSelect :: bytes16 o.tag ++ [o.kind, o.condition, o.mode]
  | .disarmTrap => []
  | .ackNotices n => bytes16 n

/-- No operand byte: a request whose code requires none. -/
def decodeNone (r : Request) : List Byte → Option Request
  | [] => some r
  | _ => none

/-- One operand byte. -/
def decodeByte (f : Byte → Request) : List Byte → Option Request
  | [b] => some (f b)
  | _ => none

/-- One 16-bit operand. -/
def decode16 (f : BitVec 16 → Request) : List Byte → Option Request
  | [b1, b0] => some (f (join16 b1 b0))
  | _ => none

/-- One 48-bit operand. -/
def decode48 (f : BitVec 48 → Request) : List Byte → Option Request
  | [b5, b4, b3, b2, b1, b0] => some (f (join48 b5 b4 b3 b2 b1 b0))
  | _ => none

/-- The three operand bytes of READ-COUNTERS. -/
def decodeReadCounters : List Byte → Option Request
  | [scope, slot, clear] => some (.readCounters scope slot clear)
  | _ => none

/-- The five operand bytes of SET-PARAM. -/
def decodeSetParam : List Byte → Option Request
  | [id, v3, v2, v1, v0] => some (.setParam id (join32 v3 v2 v1 v0))
  | _ => none

/-- The six operand bytes of ARM-TRAP. -/
def decodeArmTrap : List Byte → Option Request
  | [sel, t1, t0, kind, cond, mode] => some (.armTrap ⟨sel, join16 t1 t0, kind, cond, mode⟩)
  | _ => none

/-- The 16 operand bytes of STAGE-ENTRY (section 11.3). -/
def decodeStageEntry : List Byte → Option Request
  | [slot, state, t1, t0, lanes, timing, h3, h2, h1, h0, late, err, stamp, cont, quota, reset] =>
    some (.stageEntry
      { slot := slot
        state := state
        tag := join16 t1 t0
        lanes := lanes
        timing := timing
        holdOffset := join32 h3 h2 h1 h0
        latePolicy := late
        errorPolicy := err
        stamping := stamp
        continuity := cont
        holdQuota := quota
        resetContinuity := reset })
  | _ => none

/-- Steps 4 and 5 of R138: the request that a code and its operand bytes spell; none for an unknown code, or where
the number of operand bytes differs from the number the code requires (section 11.2). -/
def decodeRequest (code : Byte) (operands : List Byte) : Option Request :=
  if code = 0x01 then decodeNone .readStatus operands
  else if code = 0x02 then decodeByte .readEntry operands
  else if code = 0x03 then decode16 .findTag operands
  else if code = 0x04 then decodeReadCounters operands
  else if code = 0x05 then decodeByte .readStaged operands
  else if code = 0x06 then decodeByte .readParam operands
  else if code = 0x07 then decodeNone .readTime operands
  else if code = 0x08 then decode16 .readTrap operands
  else if code = 0x10 then decodeStageEntry operands
  else if code = 0x11 then decodeByte .stageRetire operands
  else if code = 0x12 then decodeByte .unstage operands
  else if code = 0x13 then decodeNone .discardStaged operands
  else if code = 0x14 then decodeNone .commit operands
  else if code = 0x15 then decode48 .commitAt operands
  else if code = 0x16 then decodeNone .cancelCommit operands
  else if code = 0x20 then decodeSetParam operands
  else if code = 0x21 then decode48 .timeSet operands
  else if code = 0x22 then decodeByte .laneBlock operands
  else if code = 0x23 then decodeByte .laneResume operands
  else if code = 0x24 then decodeNone .flush operands
  else if code = 0x25 then decodeNone .restart operands
  else if code = 0x30 then decodeArmTrap operands
  else if code = 0x31 then decodeNone .disarmTrap operands
  else if code = 0x32 then decode16 .ackNotices operands
  else none

/-- The identifiers of the parameters (section 11.3). -/
def paramReplyLane : Byte := 1
def paramNoticeLane : Byte := 2
def paramNoticeDestination : Byte := 3
def paramClassMask : Byte := 4
def paramRetryInterval : Byte := 5
def paramRetryLimit : Byte := 6
def paramUnknownAction : Byte := 7
def paramReferenceTag : Byte := 8
def paramPathCompensation : Byte := 9
def paramStepThreshold : Byte := 10
def paramHoldoverTimeout : Byte := 11
def paramStallLimit : Byte := 12
def paramStagingTimeout : Byte := 13
def paramGateNumber : Byte := 14

/-- The envelope and request that a request row stands for; none for the events and for BAD_REQUEST, which carries
its bytes itself. -/
def Instr.request : Instr → Option (Sender × Request)
  | .readStatus m => some (m, .readStatus)
  | .readEntry m slot => some (m, .readEntry slot)
  | .findTag m tag => some (m, .findTag tag)
  | .readCountersSlot m slot clear => some (m, .readCounters 0 slot clear)
  | .readCountersGlobal m slot clear => some (m, .readCounters 1 slot clear)
  | .readStaged m index => some (m, .readStaged index)
  | .readParam m id => some (m, .readParam id)
  | .readTime m => some (m, .readTime)
  | .readTrap m offset => some (m, .readTrap offset)
  | .stageEntry m e => some (m, .stageEntry e)
  | .stageRetire m slot => some (m, .stageRetire slot)
  | .unstage m slot => some (m, .unstage slot)
  | .discardStaged m => some (m, .discardStaged)
  | .commit m => some (m, .commit)
  | .commitAt m t => some (m, .commitAt t)
  | .cancelCommit m => some (m, .cancelCommit)
  | .setParam m id value => some (m, .setParam id value)
  | .setParamReplyLane m value => some (m, .setParam paramReplyLane value)
  | .setParamNoticeLane m value => some (m, .setParam paramNoticeLane value)
  | .setParamNoticeDestination m value => some (m, .setParam paramNoticeDestination value)
  | .setParamNoticeRetryInterval m value => some (m, .setParam paramRetryInterval value)
  | .setParamStepThreshold m value => some (m, .setParam paramStepThreshold value)
  | .setParamHoldoverTimeout m value => some (m, .setParam paramHoldoverTimeout value)
  | .setParamLaneStallLimit m value => some (m, .setParam paramStallLimit value)
  | .setParamStagingTimeout m value => some (m, .setParam paramStagingTimeout value)
  | .timeSet m value => some (m, .timeSet value)
  | .laneBlock m lane => some (m, .laneBlock lane)
  | .laneResume m lane => some (m, .laneResume lane)
  | .flush m => some (m, .flush)
  | .restart m => some (m, .restart)
  | .armTrap m ops => some (m, .armTrap ops)
  | .disarmTrap m => some (m, .disarmTrap)
  | .ackNotices m n => some (m, .ackNotices n)
  | .powerOn _ => none
  | .resetNAsserted => none
  | .resetNReleased _ => none
  | .signalPresent => none
  | .lossOfSignal => none
  | .lossOfAlignment => none
  | .invalidCodeGroup => none
  | .idleTimerExpiry => none
  | .startDelimiter => none
  | .dataByte _ => none
  | .endDelimiter => none
  | .waitAsserted _ => none
  | .waitReleased _ => none
  | .stallTimerExpiry _ => none
  | .laneSendStart _ => none
  | .laneSendEnd _ => none
  | .slewIntervalExpiry => none
  | .holdoverTimerExpiry => none
  | .scheduledCommit => none
  | .stagingTimerExpiry => none
  | .retryTimerExpiry _ => none
  | .workIntervalEnd => none
  | .badRequest _ _ _ => none
  | .releaseTimeComing _ => none

/-- The command that a word of the operation table spells. The table gives no row any bits (its "fields" are empty),
so no word spells one. Assumption log 23. -/
def decodeTableWord (nbits w : Nat) : Option Instr :=
  match nbits, w with
  | _, _ => none

end Sys2Proof
end

