-- ==== Sys2Proof/Machine/State.lean ====
section
/-! DEFINITION. The state of the gate as plain data, block by block in the order of the manual's block diagram, and the
state right after a hard reset. The rule that names each piece of state stands at its field. -/

namespace Sys2Proof.Machine

open Sys2Proof

/-- The gate never stops: every command of the table has an effect or none (a command whose event cannot occur leaves
the gate as it is, assumption log 5), so no constructor is needed. -/
inductive Fault where
deriving DecidableEq, Repr

/-- Why a command is turned away. Raised by the dispatch table alone, for a row that has no meaning yet; safe, since
the machine stops there. No arm raises it. -/
inductive Refusal where
  | notModelled (mnemonic : String)
deriving DecidableEq, Repr

/-! ### The pins -/

/-- The levels on the input pins (section 1.1): RESET_N (true is high), the straps GN7 to GN0, WAITA and WAITB (true
is high, "wait"), and whether the trunk decoder sees a signal. -/
structure Pins where
  resetN : Bool
  straps : Byte
  waitA : Bool
  waitB : Bool
  signal : Bool
deriving DecidableEq, Repr

/-! ### The Stream Table (chapter 2) -/

/-- The states of an entry (section 2.2). -/
inductive EntryState where
  | vacant
  | active
  | muted
  | retiring
deriving DecidableEq, Repr

/-- A subset of the two lanes (R20, R77). -/
structure LaneSet where
  a : Bool
  b : Bool
deriving DecidableEq, Repr

/-- How Admission computes the release time (R20, R81). -/
inductive Timing where
  | pass
  | arrivalDelayed
  | originAligned
deriving DecidableEq, Repr

/-- What Admission does with a late frame (R20, R82). -/
inductive LatePolicy where
  | forwardMarked
  | discard
deriving DecidableEq, Repr

/-- What the end event does with a BAD-CHECK frame (R20, R90). -/
inductive ErrorPolicy where
  | discard
  | passMarked
deriving DecidableEq, Repr

/-- Whether sequence numbers are judged (R20, R44). -/
inductive ContinuityMode where
  | check
  | ignore
deriving DecidableEq, Repr

/-- The nine configured fields of an entry (R20). -/
structure EntryConfig where
  tag : Tag
  lanes : LaneSet
  timing : Timing
  holdOffset : BitVec 32
  latePolicy : LatePolicy
  errorPolicy : ErrorPolicy
  stamping : Bool
  continuity : ContinuityMode
  holdQuota : Byte
deriving DecidableEq, Repr

/-- The fifteen counters of an entry, in the order of R22. -/
structure SlotCounters where
  received : Counter
  admitted : Counter
  discardedErrored : Counter
  discardedBehind : Counter
  discardedLate : Counter
  discardedTooEarly : Counter
  discardedQuota : Counter
  discardedPool : Counter
  discardedMuted : Counter
  discardedFlushed : Counter
  erroredPassed : Counter
  gapFrames : Counter
  restarts : Counter
  laneLostA : Counter
  laneLostB : Counter
deriving DecidableEq, Repr

/-- One entry: configured fields (R20), live fields (R21, R43) and counters (R22). An absent expected sequence or last
arrival time is `none`; the presence flag of the record is its `isSome`. -/
structure Entry where
  state : EntryState
  config : EntryConfig
  held : Nat
  expected : Option (BitVec 16)
  behindRun : Fin 4
  discontinuityA : Bool
  discontinuityB : Bool
  lastArrival : Option Time
  counters : SlotCounters
deriving DecidableEq, Repr

/-! ### The Trunk Receiver (chapter 1) -/

/-- The states of the ingress link (section 1.3). -/
inductive LinkState where
  | down
  | acquiring
  | up
deriving DecidableEq, Repr

/-- The dispatch classes (R10, R13). -/
inductive DispatchClass where
  | malformed
  | streamCandidate
  | transit
  | timeReference
  | localRequest
  | allGatesRequest
  | ownReturned
deriving DecidableEq, Repr

/-- The outcomes of a reception (R11). -/
inductive EndOutcome where
  | good
  | badCheck
  | truncated
  | overlong
deriving DecidableEq, Repr

/-- The verdicts of the Continuity Checker (R44), GAP with its distance; `unjudged` is the record's NONE. -/
inductive Verdict where
  | unjudged
  | first
  | inOrder
  | gap (distance : BitVec 16)
  | behind
  | restart
  | unchecked
deriving DecidableEq, Repr

/-- The admission outcomes of the reception context (R171); `noAction` is the record's NONE. -/
inductive AdmissionOutcome where
  | noAction
  | muted
  | behind
  | late
  | tooEarly
  | keptWithoutStorage
  | quota
  | pool
  | reserved
  | transitReserved
  | transitDropped
deriving DecidableEq, Repr

/-- The stamp flags a descriptor keeps (R77); LANE-DISCONTINUITY is added by a lane in its own copy (R103). -/
structure StampFlags where
  gapBefore : Bool
  restart : Bool
  late : Bool
  unaligned : Bool
  holdover : Bool
  errored : Bool
deriving DecidableEq, Repr

/-- What the header event fixes for a classified frame (R31): the slot, the state it had, and a copy of its
configured fields. -/
structure Classified where
  slot : Slot
  state : EntryState
  config : EntryConfig
deriving DecidableEq, Repr

/-- The reception context (R9): fixed at the header event and kept to the end event. `flushed` says that a FLUSH came
between (R93), `timeSet` that a TIME-SET did (R60). -/
structure Context where
  arrival : Time
  kind : Byte
  flags : Byte
  tag : Tag
  sequence : BitVec 16
  payloadLength : BitVec 16
  origin : Option Time
  declared : Nat
  cls : DispatchClass
  classified : Option Classified
  verdict : Verdict
  admission : AdmissionOutcome
  stampFlags : StampFlags
  reservation : Option DescNo
  flushed : Bool
  timeSet : Bool
deriving DecidableEq, Repr

/-- The frame in reception (section 1.4): the bytes counted so far, and the context once the header event has come. -/
structure Reception where
  bytes : List Byte
  context : Option Context
deriving DecidableEq, Repr

/-! ### The Gate Clock (chapter 4) -/

/-- The clock states (section 4.2). -/
inductive ClockState where
  | free
  | locked
  | holdover
deriving DecidableEq, Repr

/-- The fields of the Gate Clock: gate time (R57), state (R59), pending correction and slew interval in periods (R64,
R66), holdover timer as periods since its last start, `none` when stopped (R67), last reference arrival (R65). -/
structure Clock where
  time : Time
  state : ClockState
  pending : Int
  slew : Nat
  holdover : Option Nat
  lastReference : Option Time
deriving DecidableEq, Repr

/-! ### The Hold Buffer (chapter 5) -/

/-- Whose frame a descriptor holds (R77). -/
inductive Stream where
  | slot (k : Slot)
  | transit
deriving DecidableEq, Repr

/-- A descriptor in use is RESERVED or HELD (R76). -/
inductive DescCondition where
  | reserved
  | held
deriving DecidableEq, Repr

/-- The record of a descriptor in use (R77). `cells` is the cell chain in frame order; `data` is what the cells hold,
from the frame's first byte. -/
structure Descriptor where
  condition : DescCondition
  stream : Stream
  order : BitVec 32
  arrival : Time
  release : Time
  ready : Option Time
  remaining : LaneSet
  cells : List Nat
  frameLength : Nat
  stampFlags : StampFlags
  stamped : Bool
  data : List Byte
deriving DecidableEq, Repr

/-- The pools (R75, R76, R78): the descriptors (`none` is FREE), the free list of cell numbers, and the admission
count. -/
structure Pool where
  descs : Vector (Option Descriptor) 256
  freeCells : List Nat
  admissionCount : BitVec 32
deriving DecidableEq, Repr

/-! ### The Management Agent's records (chapter 8) -/

/-- The result codes of replies (R139, section 11.2). -/
inductive Result where
  | ok
  | busy
  | badRequest
  | badValue
  | readOnly
  | ownedElsewhere
  | frozen
  | listFull
  | empty
  | notFound
  | noTime
  | pastTime
  | notScheduled
  | duplicateTag
  | tagChange
  | slotRetiring
  | state
  | paused
  | trapBusy
deriving DecidableEq, Repr

/-- A request record of the request queue (R134). -/
structure RequestRecord where
  manager : Byte
  txn : BitVec 16
  code : Byte
  operands : List Byte
  allGates : Bool
deriving DecidableEq, Repr

/-- A reply record of the reply queue (R139). `restart` marks the reply that answered a RESTART, whose end is the
hard reset (R152). -/
structure Reply where
  manager : Byte
  txn : BitVec 16
  code : Byte
  result : Result
  duplicate : Bool
  allGates : Bool
  data : List Byte
  created : Time
  restart : Bool
deriving DecidableEq, Repr

/-- What a Manager Table entry remembers of its manager's last request (R140, R142). -/
structure LastRequest where
  txn : BitVec 16
  result : Result
  stateChanging : Bool
deriving DecidableEq, Repr

/-- A Manager Table entry (R140); a new entry has no last request. -/
structure ManagerEntry where
  manager : Byte
  last : Option LastRequest
deriving DecidableEq, Repr

/-- The Agent's states (R137). -/
inductive AgentState where
  | ready
  | working
  | restarting
deriving DecidableEq, Repr

/-- The Management Agent (chapter 8): state, periods since the last execution, request queue (at most 4), reply queue
(at most 8), Manager Table from least to most recently used (at most 4), own-frame sequence number (R145). -/
structure Agent where
  state : AgentState
  work : Nat
  requests : List RequestRecord
  replies : List Reply
  managers : List ManagerEntry
  ownSequence : BitVec 16
deriving DecidableEq, Repr

/-- The unknown-tag actions (R33). -/
inductive UnknownTagAction where
  | transit
  | discard
deriving DecidableEq, Repr

/-- The parameter set (section 8.6), in the units of its table: intervals and the holdover timeout in ms, the stall
limit in µs, the staging timeout in s, compensation and threshold in clock units. The gate number is `gateNumber` of
the state. -/
structure Params where
  replyLane : Lane
  noticeLane : Lane
  noticeDestination : Byte
  classMask : BitVec 16
  retryInterval : Nat
  retryLimit : Nat
  unknownAction : UnknownTagAction
  referenceTag : Tag
  pathCompensation : Nat
  stepThreshold : Nat
  holdoverTimeout : Nat
  stallLimit : Nat
  stagingTimeout : Nat
deriving DecidableEq, Repr

/-! ### The Egress Lanes (chapter 6) -/

/-- The lane states (section 6.4). -/
inductive LaneState where
  | idle
  | sending
  | paused
  | blockPending
  | blocked
deriving DecidableEq, Repr

/-- The item of a send in progress (section 6.3): a descriptor, or the lane's copy of a gate frame. A notice is named
by its notice sequence (R155). -/
inductive SendItem where
  | descriptor (d : DescNo)
  | reply (r : Reply)
  | notice (sequence : BitVec 16)
deriving DecidableEq, Repr

/-- A send in progress: the item, the frame as this lane sends it (R102, R103), and the periods since send start. -/
structure Send where
  item : SendItem
  frame : List Byte
  elapsed : Nat
deriving DecidableEq, Repr

/-- One lane (R96, R104 to R106): state, release queue from its head, send in progress, stall timer as periods since
its start, `none` when stopped at zero. -/
structure LaneUnit where
  state : LaneState
  releaseQueue : List DescNo
  sending : Option Send
  stall : Option Nat
deriving DecidableEq, Repr

/-! ### The Change Stage (chapter 7) -/

/-- The state a SET-ENTRY change commits into (R116). -/
inductive CommitInto where
  | active
  | muted
deriving DecidableEq, Repr

/-- A staged change (R116). -/
inductive Change where
  | setEntry (slot : Slot) (into : CommitInto) (config : EntryConfig) (resetContinuity : Bool)
  | retire (slot : Slot)
deriving DecidableEq, Repr

/-- The commit states (R124). -/
inductive CommitState where
  | idle
  | scheduled (t : Time)
deriving DecidableEq, Repr

/-- The Change Stage: the Pending Change List in staging order (R115), its owner (R117), the commit state (R124), and
the staging timer as periods since its last start, `none` when stopped (R118). -/
structure Stage where
  changes : List Change
  owner : Option Byte
  commit : CommitState
  timer : Option Nat
deriving DecidableEq, Repr

/-! ### The Notice Unit (chapter 9) -/

/-- The sixteen notice classes (R157), in the order of their codes. -/
inductive NoticeClass where
  | gap
  | restart
  | quota
  | poolExhausted
  | unknownTag
  | retired
  | timeStep
  | timeLost
  | timeRestored
  | laneBlocked
  | laneOpen
  | linkDown
  | commitDone
  | commitFailed
  | stagingExpired
  | trapFilled
deriving DecidableEq, Repr

/-- The transmission condition of a record (R155): DUE, IN-FLIGHT with the mark of R158 for a change during the send,
or WAITING with its retry timer in periods. -/
inductive NoticeCondition where
  | due
  | inFlight (changed : Bool)
  | waiting (timer : Nat)
deriving DecidableEq, Repr

/-- A notice record (R155). -/
structure Notice where
  sequence : BitVec 16
  cls : NoticeClass
  slot : Option Slot
  tag : Tag
  count : Nat
  firstTime : Time
  lastTime : Time
  detail : BitVec 32
  lossBefore : Bool
  retriesLeft : Nat
  nextTransmission : Time
  condition : NoticeCondition
deriving DecidableEq, Repr

/-- The Notice Unit: the queue in order of entry (R155), the notice sequence counter and the loss flag (R156). -/
structure NoticeUnit where
  queue : List Notice
  counter : BitVec 16
  loss : Bool
deriving DecidableEq, Repr

/-! ### The Capture Trap (chapter 10) -/

/-- The trap states (R167). -/
inductive TrapState where
  | idle
  | armed
  | filling
  | held
deriving DecidableEq, Repr

/-- The conditions of the filter (R167). -/
inductive TrapCondition where
  | any
  | errored
  | gap
  | late
deriving DecidableEq, Repr

/-- The modes of the trap (R167). -/
inductive TrapMode where
  | oneShot
  | continuous
deriving DecidableEq, Repr

/-- The capture record (R171). -/
structure CaptureRecord where
  outcome : EndOutcome
  receivedLength : Nat
  keptLength : Nat
  arrival : Time
  cls : DispatchClass
  slot : Option Slot
  verdict : Verdict
  admission : AdmissionOutcome
  stampFlags : StampFlags
  flushed : Bool
deriving DecidableEq, Repr

/-- The Capture Trap (R167): state, filter (`none` is ANY; a kind is its kind byte), condition, mode, Trap Buffer
(its kept length is its length), capture record, generation. -/
structure Trap where
  state : TrapState
  filterTag : Option Tag
  filterKind : Option Byte
  condition : TrapCondition
  mode : TrapMode
  buffer : List Byte
  record : Option CaptureRecord
  generation : BitVec 16
deriving DecidableEq, Repr

/-! ### The whole gate -/

/-- The twelve global counters, in the order of R149. -/
structure GlobalCounters where
  malformed : Counter
  unknownTag : Counter
  transitForwarded : Counter
  transitDropped : Counter
  truncated : Counter
  ownReturned : Counter
  requestsDropped : Counter
  repliesLost : Counter
  noticesLost : Counter
  noticesExpired : Counter
  stampsSkipped : Counter
  linkLosses : Counter
deriving DecidableEq, Repr

/-- The state of the gate. `freeCount` (how many free values have been used) and `pending` (the commands that wait)
are the model's own; every other field is the manual's. `idleTimer` is the unbroken idle fill in periods, `none`
outside ACQUIRING (R4). -/
structure State where
  pins : Pins
  gateNumber : Byte
  link : LinkState
  idleTimer : Option Nat
  reception : Option Reception
  table : Vector Entry 64
  clock : Clock
  pool : Pool
  laneA : LaneUnit
  laneB : LaneUnit
  transitQueue : List DescNo
  stage : Stage
  agent : Agent
  params : Params
  notices : NoticeUnit
  trap : Trap
  counters : GlobalCounters
  freeCount : Nat
  pending : List Instr
deriving DecidableEq, Repr

/-! ### Values after hard reset -/

/-- The zero values of R24. -/
def EntryConfig.zero : EntryConfig :=
  { tag := 0
    lanes := ⟨false, false⟩
    timing := .pass
    holdOffset := 0
    latePolicy := .forwardMarked
    errorPolicy := .discard
    stamping := false
    continuity := .check
    holdQuota := 0 }

/-- All fifteen counters at 0 (R24, R25, R39). -/
def SlotCounters.zero : SlotCounters :=
  { received := 0
    admitted := 0
    discardedErrored := 0
    discardedBehind := 0
    discardedLate := 0
    discardedTooEarly := 0
    discardedQuota := 0
    discardedPool := 0
    discardedMuted := 0
    discardedFlushed := 0
    erroredPassed := 0
    gapFrames := 0
    restarts := 0
    laneLostA := 0
    laneLostB := 0 }

/-- A slot after hard reset (R24). -/
def Entry.reset : Entry :=
  { state := .vacant
    config := .zero
    held := 0
    expected := none
    behindRun := 0
    discontinuityA := false
    discontinuityB := false
    lastArrival := none
    counters := .zero }

/-- The clock after hard reset (section 4.10). -/
def Clock.reset : Clock :=
  { time := 0
    state := .free
    pending := 0
    slew := 0
    holdover := none
    lastReference := none }

/-- The pools after hard reset (section 5.6). -/
def Pool.reset : Pool :=
  { descs := Vector.replicate 256 none
    freeCells := List.range 1024
    admissionCount := 0 }

/-- A lane after hard reset with its WAIT line low (R114). -/
def LaneUnit.reset : LaneUnit :=
  { state := .idle
    releaseQueue := []
    sending := none
    stall := none }

/-- The Change Stage after hard reset (R133). -/
def Stage.reset : Stage :=
  { changes := []
    owner := none
    commit := .idle
    timer := none }

/-- The Agent after hard reset (R154). -/
def Agent.reset : Agent :=
  { state := .ready
    work := 0
    requests := []
    replies := []
    managers := []
    ownSequence := 0 }

/-- The defaults of section 8.6 (R150). -/
def Params.reset : Params :=
  { replyLane := .a
    noticeLane := .a
    noticeDestination := 0
    classMask := 0xFFFF
    retryInterval := 100
    retryLimit := 3
    unknownAction := .transit
    referenceTag := 0xFFFF
    pathCompensation := 0
    stepThreshold := 1000
    holdoverTimeout := 2000
    stallLimit := 20000
    stagingTimeout := 5 }

/-- The Notice Unit after hard reset (R166). -/
def NoticeUnit.reset : NoticeUnit :=
  { queue := []
    counter := 0
    loss := false }

/-- The trap after hard reset (R167). -/
def Trap.reset : Trap :=
  { state := .idle
    filterTag := none
    filterKind := none
    condition := .any
    mode := .oneShot
    buffer := []
    record := none
    generation := 0 }

/-- All twelve global counters at 0 (R149). -/
def GlobalCounters.zero : GlobalCounters :=
  { malformed := 0
    unknownTag := 0
    transitForwarded := 0
    transitDropped := 0
    truncated := 0
    ownReturned := 0
    requestsDropped := 0
    repliesLost := 0
    noticesLost := 0
    noticesExpired := 0
    stampsSkipped := 0
    linkLosses := 0 }

/-- The levels the model gives the pins before the first command: RESET_N high, straps 0, no WAIT, no signal. The
manual gives a pin no level of its own. Assumption log 1 (DESIGN CHOICE, unsafe). -/
def Pins.initial : Pins :=
  { resetN := true
    straps := 0
    waitA := false
    waitB := false
    signal := false }

/-- The gate right after a hard reset with no signal on the trunk and both WAIT lines low: every block at the values
its chapter states. The straps, and with them the gate number, are the model's choice (assumption log 1). -/
def State.reset : State :=
  { pins := .initial
    gateNumber := 0
    link := .down
    idleTimer := none
    reception := none
    table := Vector.replicate 64 .reset
    clock := .reset
    pool := .reset
    laneA := .reset
    laneB := .reset
    transitQueue := []
    stage := .reset
    agent := .reset
    params := .reset
    notices := .reset
    trap := .reset
    counters := .zero
    freeCount := 0
    pending := [] }

end Sys2Proof.Machine
end

