-- ==== Sys2Proof/Machine/Flags.lean ====
section
/-! DEFINITION. The flag bytes of frames, stamps, records and replies, and the check word (chapter 11). -/

namespace Sys2Proof.Machine

open Sys2Proof

/-! ### The flags byte of a frame (section 11.1) -/

/-- Bit 7: the origin time field is meaningful. -/
def originPresent (flags : Byte) : Bool := flags.getLsbD 7

/-- Bits 2 to 0: the number of stamps the frame carries. -/
def stampCount (flags : Byte) : Nat := (flags.extractLsb' 0 3).toNat

/-- The flags byte with the stamp count raised by one; every other bit stays as received (R88, R89). -/
def raiseStampCount (flags : Byte) : Byte := (flags &&& 0xF8) ||| byteOf (stampCount flags + 1)

/-- The flags byte of the gate's own frames: origin-time-present, no stamp, reserved bits 0 (R144, R160). -/
def ownFrameFlags : Byte := 0x80

/-! ### Stamp flags (section 11.1, R89, R176) -/

/-- No stamp flag. -/
def noStampFlags : StampFlags := ⟨false, false, false, false, false, false⟩

/-- The byte with one bit set or clear. -/
def bitAt (i : Nat) (b : Bool) : Byte := if b then BitVec.twoPow 8 i else 0

/-- The stamp flags byte as stored: bits 6 and 7 are 0. -/
def stampFlagsByte (f : StampFlags) : Byte :=
  bitAt 0 f.gapBefore ||| bitAt 1 f.restart ||| bitAt 2 f.late ||| bitAt 3 f.unaligned ||| bitAt 4 f.holdover |||
    bitAt 5 f.errored

/-- Bit 6 of the stamp flags, set by a lane in its own copy (R103). -/
def laneDiscontinuityBit : Byte := 0x40

/-! ### Flags of records and replies (sections 11.2, 11.3) -/

/-- The flags of the READ-ENTRY record: expected present, last arrival present, discontinuity A and B. That bits 4 to 7
are 0 is DESIGN CHOICE, unsafe, assumption log 36. -/
def entryFlagsByte (e : Entry) : Byte :=
  bitAt 0 e.expected.isSome ||| bitAt 1 e.lastArrival.isSome ||| bitAt 2 e.discontinuityA ||| bitAt 3 e.discontinuityB

/-- The reply flags: bit 0 DUPLICATE, bit 1 ALL-GATES (section 11.2). -/
def replyFlagsByte (r : Reply) : Byte := bitAt 0 r.duplicate ||| bitAt 1 r.allGates

/-! ### The check word (R175) -/

/-- One message bit: the register shifts left, and takes the polynomial when the bit shifted out differs from the
message bit. -/
def crcBit (reg : BitVec 32) (bit : Bool) : BitVec 32 :=
  if reg.msb != bit then (reg <<< 1) ^^^ 0x04C11DB7 else reg <<< 1

/-- One byte, its bits most significant first. -/
def crcByte (reg : BitVec 32) (b : Byte) : BitVec 32 :=
  [7, 6, 5, 4, 3, 2, 1, 0].foldl (fun r i => crcBit r (b.getLsbD i)) reg

/-- The check word of the bytes before it (R175). -/
def checkWord (bytes : List Byte) : BitVec 32 := bytes.foldl crcByte 0xFFFFFFFF ^^^ 0xFFFFFFFF

/-- A frame completed with its check word. -/
def withCheckWord (bytes : List Byte) : List Byte := bytes ++ bytes32 (checkWord bytes)

/-- The last four bytes are the check word of the bytes before them (R11, R175). -/
def checkWordCorrect (frame : List Byte) : Bool :=
  decide (frame.drop (frame.length - 4) = bytes32 (checkWord (frame.take (frame.length - 4))))

end Sys2Proof.Machine
end

