-- ==== Sys2Proof/Machine/Operands.lean ====
section
/-! DEFINITION. The encodings of operands and records: which values an operand byte names (R177), and the byte layouts
of replies and notices (chapter 11). -/

namespace Sys2Proof.Machine

open Sys2Proof

/-! ### Operands (R177) -/

/-- A slot operand: 0 to 63 (R19). -/
def slotOf (b : Byte) : Option Slot := if h : b.toNat < 64 then some ⟨b.toNat, h⟩ else none

/-- A lane operand: 0 A, 1 B. -/
def laneOf (v : Nat) : Option Lane :=
  match v with
  | 0 => some .a
  | 1 => some .b
  | _ => none

/-- A one-bit operand: 0 or 1. -/
def bitOf (b : Byte) : Option Bool :=
  match b.toNat with
  | 0 => some false
  | 1 => some true
  | _ => none

/-- The state byte of a staged change: 1 ACTIVE, 2 MUTED. -/
def commitIntoOf (b : Byte) : Option CommitInto :=
  match b.toNat with
  | 1 => some .active
  | 2 => some .muted
  | _ => none

/-- The lanes byte: bit 0 A, bit 1 B, no other bit. -/
def laneSetOf (b : Byte) : Option LaneSet :=
  if b.toNat < 4 then some ⟨b.getLsbD 0, b.getLsbD 1⟩ else none

/-- The timing mode byte. -/
def timingOf (b : Byte) : Option Timing :=
  match b.toNat with
  | 0 => some .pass
  | 1 => some .arrivalDelayed
  | 2 => some .originAligned
  | _ => none

/-- The late policy byte. -/
def latePolicyOf (b : Byte) : Option LatePolicy :=
  match b.toNat with
  | 0 => some .forwardMarked
  | 1 => some .discard
  | _ => none

/-- The error policy byte. -/
def errorPolicyOf (b : Byte) : Option ErrorPolicy :=
  match b.toNat with
  | 0 => some .discard
  | 1 => some .passMarked
  | _ => none

/-- The continuity mode byte. -/
def continuityOf (b : Byte) : Option ContinuityMode :=
  match b.toNat with
  | 0 => some .check
  | 1 => some .ignore
  | _ => none

/-- The largest hold offset (R20). -/
def maxHoldOffset : Nat := 50000000

/-- The first tag that is no stream tag (R10, R20, R41). -/
def firstGateTag : Nat := 0xF000

/-- Check 3 of R120: the change that the operands of STAGE-ENTRY spell, none where a field is out of its range. -/
def changeOf (e : EntryOperands) : Option Change := do
  let slot ← slotOf e.slot
  let into ← commitIntoOf e.state
  let lanes ← laneSetOf e.lanes
  let timing ← timingOf e.timing
  let late ← latePolicyOf e.latePolicy
  let err ← errorPolicyOf e.errorPolicy
  let stamping ← bitOf e.stamping
  let cont ← continuityOf e.continuity
  let reset ← bitOf e.resetContinuity
  if e.tag.toNat < firstGateTag ∧ e.holdOffset.toNat ≤ maxHoldOffset ∧ 1 ≤ e.holdQuota.toNat then
    some (.setEntry slot into
      { tag := e.tag
        lanes := lanes
        timing := timing
        holdOffset := e.holdOffset
        latePolicy := late
        errorPolicy := err
        stamping := stamping
        continuity := cont
        holdQuota := e.holdQuota } reset)
  else none

/-- The filter tag of ARM-TRAP: with tag select 1 the tag bytes are not read (R177). The outer `none` is a tag select
with no meaning. -/
def filterTagOf (sel : Byte) (tag : Tag) : Option (Option Tag) :=
  match sel.toNat with
  | 0 => some (some tag)
  | 1 => some none
  | _ => none

/-- The filter kind of ARM-TRAP: 0 ANY, 1 to 5 a kind byte. -/
def filterKindOf (b : Byte) : Option (Option Byte) :=
  if b = 0 then some none else if b.toNat ≤ 5 then some (some b) else none

/-- The condition byte of ARM-TRAP. -/
def trapConditionOf (b : Byte) : Option TrapCondition :=
  match b.toNat with
  | 0 => some .any
  | 1 => some .errored
  | 2 => some .gap
  | 3 => some .late
  | _ => none

/-- The mode byte of ARM-TRAP. -/
def trapModeOf (b : Byte) : Option TrapMode :=
  match b.toNat with
  | 0 => some .oneShot
  | 1 => some .continuous
  | _ => none

/-! ### Codes of records -/

/-- A slot field; 255 is "none" (chapter 11). -/
def slotByte (k : Option Slot) : Byte :=
  match k with
  | some k => byteOf k.val
  | none => 255

def laneByte : Lane → Byte
  | .a => 0
  | .b => 1

def linkByte : LinkState → Byte
  | .down => 0
  | .acquiring => 1
  | .up => 2

def clockStateByte : ClockState → Byte
  | .free => 0
  | .locked => 1
  | .holdover => 2

def laneStateByte : LaneState → Byte
  | .idle => 0
  | .sending => 1
  | .paused => 2
  | .blockPending => 3
  | .blocked => 4

def entryStateByte : EntryState → Byte
  | .vacant => 0
  | .active => 1
  | .muted => 2
  | .retiring => 3

def commitIntoByte : CommitInto → Byte
  | .active => 1
  | .muted => 2

def laneSetByte (s : LaneSet) : Byte := bitAt 0 s.a ||| bitAt 1 s.b

def timingByte : Timing → Byte
  | .pass => 0
  | .arrivalDelayed => 1
  | .originAligned => 2

def latePolicyByte : LatePolicy → Byte
  | .forwardMarked => 0
  | .discard => 1

def errorPolicyByte : ErrorPolicy → Byte
  | .discard => 0
  | .passMarked => 1

def continuityByte : ContinuityMode → Byte
  | .check => 0
  | .ignore => 1

def trapStateByte : TrapState → Byte
  | .idle => 0
  | .armed => 1
  | .filling => 2
  | .held => 3

def trapConditionByte : TrapCondition → Byte
  | .any => 0
  | .errored => 1
  | .gap => 2
  | .late => 3

def trapModeByte : TrapMode → Byte
  | .oneShot => 0
  | .continuous => 1

def unknownActionByte : UnknownTagAction → Byte
  | .transit => 0
  | .discard => 1

def commitStateByte : CommitState → Byte
  | .idle => 0
  | .scheduled _ => 1

/-- The scheduled time as reported: 0 in IDLE (R123, R146). -/
def commitTime : CommitState → Time
  | .idle => 0
  | .scheduled t => t

def outcomeByte : EndOutcome → Byte
  | .good => 0
  | .badCheck => 1
  | .truncated => 2
  | .overlong => 3

def classByte : DispatchClass → Byte
  | .malformed => 0
  | .streamCandidate => 1
  | .transit => 2
  | .timeReference => 3
  | .localRequest => 4
  | .allGatesRequest => 5
  | .ownReturned => 6

def verdictByte : Verdict → Byte
  | .unjudged => 0
  | .first => 1
  | .inOrder => 2
  | .gap _ => 3
  | .behind => 4
  | .restart => 5
  | .unchecked => 6

/-- The gap distance of the capture record: 0 for every verdict but GAP (R171). -/
def gapDistance : Verdict → BitVec 16
  | .gap d => d
  | _ => 0

def admissionByte : AdmissionOutcome → Byte
  | .noAction => 0
  | .muted => 1
  | .behind => 2
  | .late => 3
  | .tooEarly => 4
  | .keptWithoutStorage => 5
  | .quota => 6
  | .pool => 7
  | .reserved => 8
  | .transitReserved => 9
  | .transitDropped => 10

def resultByte : Result → Byte
  | .ok => 0
  | .busy => 1
  | .badRequest => 2
  | .badValue => 3
  | .readOnly => 4
  | .ownedElsewhere => 5
  | .frozen => 6
  | .listFull => 7
  | .empty => 8
  | .notFound => 9
  | .noTime => 10
  | .pastTime => 11
  | .notScheduled => 12
  | .duplicateTag => 13
  | .tagChange => 14
  | .slotRetiring => 15
  | .state => 16
  | .paused => 17
  | .trapBusy => 18

/-- The code of each notice class, 1 to 16 (section 11.4). -/
def noticeCode : NoticeClass → Nat
  | .gap => 1
  | .restart => 2
  | .quota => 3
  | .poolExhausted => 4
  | .unknownTag => 5
  | .retired => 6
  | .timeStep => 7
  | .timeLost => 8
  | .timeRestored => 9
  | .laneBlocked => 10
  | .laneOpen => 11
  | .linkDown => 12
  | .commitDone => 13
  | .commitFailed => 14
  | .stagingExpired => 15
  | .trapFilled => 16

/-! ### Details of notices (section 11.4) -/

/-- Two 16-bit detail fields. -/
def detail16 (x y : BitVec 16) : BitVec 32 := x ++ y

/-- Four one-byte detail fields. -/
def detail8 (w x y z : Byte) : BitVec 32 := join32 w x y z

/-- A signed detail, saturated at what four bytes hold (R74). -/
def detailSigned (v : Int) : BitVec 32 := BitVec.ofInt 32 (max (-2147483648) (min 2147483647 v))

/-! ### Records of replies (section 11.3) -/

/-- The twelve bytes at offsets 2 to 14 of a staged change and of an entry record: tag to hold quota. -/
def configBytes (c : EntryConfig) : List Byte :=
  bytes16 c.tag ++ [laneSetByte c.lanes, timingByte c.timing] ++ bytes32 c.holdOffset ++
    [latePolicyByte c.latePolicy, errorPolicyByte c.errorPolicy, bitAt 0 c.stamping, continuityByte c.continuity,
      c.holdQuota]

/-- The 16-byte change: for a RETIRE the slot and 15 zero bytes. -/
def changeBytes : Change → List Byte
  | .setEntry slot into config reset =>
    [byteOf slot.val, commitIntoByte into] ++ configBytes config ++ [bitAt 0 reset]
  | .retire slot => byteOf slot.val :: List.replicate 15 0

/-- The kind byte of a change: 1 SET-ENTRY, 2 RETIRE. -/
def changeKindByte : Change → Byte
  | .setEntry _ _ _ _ => 1
  | .retire _ => 2

/-- READ-ENTRY data, 26 bytes (R40). An absent field reads 0 (R21). -/
def entryRecord (slot : Slot) (e : Entry) : List Byte :=
  [byteOf slot.val, entryStateByte e.state] ++ configBytes e.config ++ [byteOf e.held, entryFlagsByte e] ++
    bytes16 (e.expected.getD 0) ++ [byteOf e.behindRun.val] ++ bytes48 (e.lastArrival.getD 0)

/-- The fifteen counters in the order of R22. -/
def slotCounterList (c : SlotCounters) : List Counter :=
  [c.received, c.admitted, c.discardedErrored, c.discardedBehind, c.discardedLate, c.discardedTooEarly,
    c.discardedQuota, c.discardedPool, c.discardedMuted, c.discardedFlushed, c.erroredPassed, c.gapFrames, c.restarts,
    c.laneLostA, c.laneLostB]

/-- READ-COUNTERS data with scope SLOT, 61 bytes. -/
def slotCounterRecord (slot : Slot) (c : SlotCounters) : List Byte :=
  byteOf slot.val :: (slotCounterList c).flatMap bytes32

/-- The twelve counters in the order of R149. -/
def globalCounterList (c : GlobalCounters) : List Counter :=
  [c.malformed, c.unknownTag, c.transitForwarded, c.transitDropped, c.truncated, c.ownReturned, c.requestsDropped,
    c.repliesLost, c.noticesLost, c.noticesExpired, c.stampsSkipped, c.linkLosses]

/-- READ-COUNTERS data with scope GLOBAL, 48 bytes. -/
def globalCounterRecord (c : GlobalCounters) : List Byte := (globalCounterList c).flatMap bytes32

/-- READ-STAGED data, 27 bytes (R123). -/
def stagedRecord (st : Stage) (index : Byte) (c : Change) : List Byte :=
  [byteOf st.changes.length, st.owner.getD 0, commitStateByte st.commit] ++ bytes48 (commitTime st.commit) ++
    [index, changeKindByte c] ++ changeBytes c

/-- The capture record, 19 bytes (section 11.4); the received length saturates at 65535 (R171), and of the stamp flags
bits 0 to 4 stand; that bits 5 to 7 are 0 is DESIGN CHOICE, unsafe, assumption log 36. -/
def captureRecordBytes (r : CaptureRecord) : List Byte :=
  [outcomeByte r.outcome] ++ bytes16 (BitVec.ofNat 16 (min r.receivedLength 65535)) ++
    bytes16 (BitVec.ofNat 16 r.keptLength) ++ bytes48 r.arrival ++
    [classByte r.cls, slotByte r.slot, verdictByte r.verdict] ++ bytes16 (gapDistance r.verdict) ++
    [admissionByte r.admission, stampFlagsByte { r.stampFlags with errored := false }, bitAt 0 r.flushed]

/-- The filter and mode as in the ARM-TRAP operands, 6 bytes (section 11.4); `anyTag` stands in the tag bytes when the
filter tag is ANY (assumption log 13). -/
def trapFilterBytes (t : Trap) (anyTag : Tag) : List Byte :=
  (match t.filterTag with
    | some tag => 0 :: bytes16 tag
    | none => 1 :: bytes16 anyTag) ++
    [t.filterKind.getD 0, trapConditionByte t.condition, trapModeByte t.mode]

/-- The payload of a REPLY frame (section 11.2, R144). -/
def replyPayload (r : Reply) : List Byte :=
  [r.manager] ++ bytes16 r.txn ++ [r.code, resultByte r.result, replyFlagsByte r] ++ r.data

/-- The payload of a NOTICE frame, 26 bytes (R160, section 11.4). Section 11.4 names bit 0 of the flags byte, LOSS-BEFORE;
that bits 1 to 7 are 0 is DESIGN CHOICE, unsafe, assumption log 36. -/
def noticePayload (destination : Byte) (n : Notice) : List Byte :=
  [destination] ++ bytes16 n.sequence ++ [byteOf (noticeCode n.cls), slotByte n.slot] ++ bytes16 n.tag ++
    [byteOf n.count] ++ bytes48 n.firstTime ++ bytes48 n.lastTime ++ bytes32 n.detail ++
    [bitAt 0 n.lossBefore, byteOf n.retriesLeft]

end Sys2Proof.Machine
end

