-- ==== Sys2Proof/Machine/Ops.lean ====
section
/-! DEFINITION. The shared operations: units of time and time tests, access to entries, lanes, descriptors and counters,
raising a notice, freeing storage, retirement, and the hard reset. -/

namespace Sys2Proof.Machine

open Sys2Proof

/-! ### Reference-clock time (R58): every timer counts periods of the nominal 125 MHz clock. Assumption log 2. -/

/-- Periods in a microsecond: 8 ns each (section 1.1). -/
def periodsPerMicrosecond : Nat := 125

/-- Periods in a millisecond. -/
def periodsPerMillisecond : Nat := 125000

/-- Periods in a second. -/
def periodsPerSecond : Nat := 125000000

/-- The idle fill that brings the link to UP: 16 µs (R5). -/
def idleLimit : Nat := 16 * periodsPerMicrosecond

/-- The longest work interval: 2 µs (R137). -/
def workLimit : Nat := 2 * periodsPerMicrosecond

/-- The slew interval in periods (R66). -/
def slewPeriods : Nat := 4096

/-- The holdover timeout in force, in periods (R67). -/
def holdoverLimit (p : Params) : Nat := p.holdoverTimeout * periodsPerMillisecond

/-- The lane stall limit in force, in periods (R107). -/
def stallLimit (p : Params) : Nat := p.stallLimit * periodsPerMicrosecond

/-- The staging timeout in force, in periods (R118). -/
def stagingLimit (p : Params) : Nat := p.stagingTimeout * periodsPerSecond

/-- The notice retry interval in force, in periods (R161). -/
def retryLimitPeriods (p : Params) : Nat := p.retryInterval * periodsPerMillisecond

/-! ### Time tests (conventions, R58, R96, R101) -/

/-- Time `t` has come at gate time `now` (R58). -/
def hasCome (now t : Time) : Bool := decide ((now - t).toNat < 2 ^ 47)

/-- How far `t` is ahead of `now`; 0 once it has come (R58). -/
def aheadBy (now t : Time) : Nat := if hasCome now t then 0 else (t - now).toNat

/-- How long ago `t` came; a time still ahead counts as `now` (R100, R101). -/
def age (now t : Time) : Nat := if hasCome now t then (now - t).toNat else 0

/-- Release time `r` is earlier than `t` (R96). -/
def releaseEarlier (r t : Time) : Bool := decide (1 ≤ (t - r).toNat) && decide ((t - r).toNat < 2 ^ 47)

/-- Admission order number `x` was given before `y` (R78). -/
def admittedBefore (x y : BitVec 32) : Bool := decide (1 ≤ (y - x).toNat) && decide ((y - x).toNat < 2 ^ 31)

/-- The element whose time came longest ago; among equals the first of the list (R101, R160). -/
def oldest {α : Type} (now : Time) (time : α → Time) : List α → Option α
  | [] => none
  | x :: xs =>
    match oldest now time xs with
    | none => some x
    | some y => if age now (time x) < age now (time y) then some y else some x

/-! ### Lane sets -/

/-- Whether a lane is in a set. -/
def LaneSet.has (s : LaneSet) : Lane → Bool
  | .a => s.a
  | .b => s.b

/-- A set with one lane taken out. -/
def LaneSet.without (s : LaneSet) : Lane → LaneSet
  | .a => ⟨false, s.b⟩
  | .b => ⟨s.a, false⟩

/-- No lane is left. -/
def LaneSet.isEmpty (s : LaneSet) : Bool := !s.a && !s.b

/-! ### Access to the state -/

/-- One lane. -/
def State.lane (s : State) : Lane → LaneUnit
  | .a => s.laneA
  | .b => s.laneB

/-- Replaces one lane. -/
def State.setLane (s : State) (l : Lane) (u : LaneUnit) : State :=
  match l with
  | .a => { s with laneA := u }
  | .b => { s with laneB := u }

/-- The level of a lane's WAIT line (R105). -/
def State.waitHigh (s : State) : Lane → Bool
  | .a => s.pins.waitA
  | .b => s.pins.waitB

/-- A lane is BLOCKED. -/
def State.blocked (s : State) (l : Lane) : Bool := decide ((s.lane l).state = .blocked)

/-- The entry of a slot. -/
def State.entry (s : State) (k : Slot) : Entry := s.table.get k

/-- Replaces the entry of a slot. -/
def State.setEntry (s : State) (k : Slot) (e : Entry) : State := { s with table := s.table.set k.val e k.isLt }

/-- Changes the entry of a slot. -/
def State.modifyEntry (s : State) (k : Slot) (f : Entry → Entry) : State := s.setEntry k (f (s.entry k))

/-- A descriptor: none is FREE (R76). -/
def State.desc (s : State) (d : DescNo) : Option Descriptor := s.pool.descs.get d

/-- Replaces a descriptor. -/
def State.setDesc (s : State) (d : DescNo) (r : Option Descriptor) : State :=
  { s with pool := { s.pool with descs := s.pool.descs.set d.val r d.isLt } }

/-- The descriptors in use. -/
def State.descsInUse (s : State) : List Descriptor := s.pool.descs.toList.filterMap id

/-- The number of FREE descriptors (R76). -/
def State.freeDescs (s : State) : Nat := 256 - s.descsInUse.length

/-- The transit count: transit descriptors in use, RESERVED or HELD (R76). -/
def State.transitCount (s : State) : Nat := (s.descsInUse.filter fun r => decide (r.stream = .transit)).length

/-- The context of the frame in reception, once its header event has come. -/
def State.context (s : State) : Option Context := s.reception.bind (·.context)

/-- The engaged slot (R23): the one the frame in reception is classified to. -/
def State.engaged (s : State) : Option Slot := (s.context.bind (·.classified)).map (·.slot)

/-- Changes the context of the frame in reception. -/
def State.modifyContext (s : State) (f : Context → Context) : State :=
  { s with reception := s.reception.map fun r => { r with context := r.context.map f } }

/-- Changes the global counters. -/
def State.count (s : State) (f : GlobalCounters → GlobalCounters) : State := { s with counters := f s.counters }

/-- The slots in order. -/
def allSlots : List Slot := List.finRange 64

/-- The descriptor numbers in order. -/
def allDescs : List DescNo := List.finRange 256

/-! ### The gate's addresses (R1, R2) -/

/-- The gate's own source tag: its gate address when numbered, 0xF0FF when unnumbered. Both are 0xF000 plus the gate
number as kept. -/
def sourceTag (gateNumber : Byte) : Tag := 0xF000 + gateNumber.setWidth 16

/-- The address every gate accepts. -/
def allGatesTag : Tag := 0xF0FF

/-- The tag that stands for "none" in notices and for no time reference. -/
def noTag : Tag := 0xFFFF

/-! ### Raising a notice (R158, R159) -/

/-- The most records the Notice Queue holds (R155). -/
def noticeCapacity : Nat := 16

/-- Whether the class mask enables a class: bit c - 1 for class code c (section 11.3). -/
def classEnabled (mask : BitVec 16) (cls : NoticeClass) : Bool := mask.getLsbD (noticeCode cls - 1)

/-- A record of the same class and slot (R158). -/
def sameSubject (cls : NoticeClass) (slot : Option Slot) (n : Notice) : Bool :=
  decide (n.cls = cls) && decide (n.slot = slot)

/-- A raise folded into a record (R158). -/
def coalesce (now : Time) (retryLimit : Nat) (tag : Tag) (detail : BitVec 32) (n : Notice) : Notice :=
  { n with
    count := if n.count < 255 then n.count + 1 else n.count
    lastTime := now
    tag := tag
    detail := detail
    retriesLeft := retryLimit
    condition :=
      match n.condition with
      | .due => .due
      | .inFlight _ => .inFlight true
      | .waiting _ => .due
    nextTransmission :=
      match n.condition with
      | .waiting _ => now
      | _ => n.nextTransmission }

/-- The record that a raise makes (R159). -/
def newNotice (u : NoticeUnit) (now : Time) (retryLimit : Nat) (cls : NoticeClass) (slot : Option Slot) (tag : Tag)
    (detail : BitVec 32) : Notice :=
  { sequence := u.counter
    cls := cls
    slot := slot
    tag := tag
    count := 1
    firstTime := now
    lastTime := now
    detail := detail
    lossBefore := u.loss
    retriesLeft := retryLimit
    nextTransmission := now
    condition := .due }

/-- A raise taken by the Notice Unit at this moment: ignored while notices are off or the class is disabled; else
folded into the record of its class and slot; else a new record; else lost for a full queue. -/
def raise (cls : NoticeClass) (slot : Option Slot) (tag : Tag) (detail : BitVec 32) (s : State) : State :=
  if s.params.noticeDestination = 0 ∨ classEnabled s.params.classMask cls = false then s
  else if s.notices.queue.any (sameSubject cls slot) then
    { s with
      notices :=
        { s.notices with
          queue := s.notices.queue.map fun n =>
            if sameSubject cls slot n then coalesce s.clock.time s.params.retryLimit tag detail n else n } }
  else if s.notices.queue.length < noticeCapacity then
    { s with
      notices :=
        { queue := s.notices.queue ++ [newNotice s.notices s.clock.time s.params.retryLimit cls slot tag detail]
          counter := s.notices.counter + 1
          loss := false } }
  else
    { s with
      notices := { s.notices with loss := true }
      counters := { s.counters with noticesLost := s.counters.noticesLost + 1 } }

/-! ### Retirement (R27, R28) -/

/-- The slot becomes VACANT and RETIRED is raised with the slot, its tag and its received counter. Everything else the
slot keeps (R28). -/
def vacate (k : Slot) (s : State) : State :=
  raise .retired (some k) (s.entry k).config.tag (s.entry k).counters.received
    (s.modifyEntry k fun e => { e with state := .vacant })

/-- R28: a RETIRING slot whose held count is 0 and which is not engaged becomes VACANT. -/
def retireCheck (k : Slot) (s : State) : State :=
  if (s.entry k).state = .retiring ∧ (s.entry k).held = 0 ∧ s.engaged ≠ some k then vacate k s else s

/-! ### Lane losses, and storage given back (R34, R36, R75) -/

/-- One frame of the stream lost to a lane: the lane-lost counter rises and the discontinuity flag is set (R36). -/
def Entry.laneLost (e : Entry) : Lane → Entry
  | .a =>
    { e with
      counters := { e.counters with laneLostA := e.counters.laneLostA + 1 }
      discontinuityA := true }
  | .b =>
    { e with
      counters := { e.counters with laneLostB := e.counters.laneLostB + 1 }
      discontinuityB := true }

/-- The lane discontinuity flag of a lane (R21). -/
def Entry.discontinuity (e : Entry) : Lane → Bool
  | .a => e.discontinuityA
  | .b => e.discontinuityB

/-- Clears the lane discontinuity flag of a lane (R103). -/
def Entry.clearDiscontinuity (e : Entry) : Lane → Entry
  | .a => { e with discontinuityA := false }
  | .b => { e with discontinuityB := false }

/-- A descriptor becomes FREE: its cells return to the free list all at once, at its tail (DESIGN CHOICE, assumption
log 9), and its slot's held count falls by one (R34, R75), which may end the slot's retirement (R28). -/
def freeDesc (d : DescNo) (s : State) : State :=
  match s.desc d with
  | none => s
  | some r =>
    let t := { s with pool := { s.pool with freeCells := s.pool.freeCells ++ r.cells } }.setDesc d none
    match r.stream with
    | .slot k => retireCheck k (t.modifyEntry k fun e => { e with held := e.held - 1 })
    | .transit => t

/-- A lane leaves a descriptor's remaining set; an empty set frees the descriptor (R104, R109). -/
def leaveLane (l : Lane) (d : DescNo) (s : State) : State :=
  match s.desc d with
  | none => s
  | some r =>
    if (r.remaining.without l).isEmpty then freeDesc d s
    else s.setDesc d (some { r with remaining := r.remaining.without l })

/-- A frame lost to a lane that held it: lane-lost for a stream frame, transit dropped for a transit frame, and the
lane leaves the remaining set (R88, R91, R94, R109). -/
def dropLane (l : Lane) (d : DescNo) (s : State) : State :=
  match s.desc d with
  | none => s
  | some r =>
    match r.stream with
    | .slot k => leaveLane l d (s.modifyEntry k (·.laneLost l))
    | .transit => leaveLane l d (s.count fun c => { c with transitDropped := c.transitDropped + 1 })

/-! ### The hard reset (R1, R3, section 8.7) -/

/-- The link at the end of a hard reset: ACQUIRING at once where a signal is present (R4). -/
def linkAfterReset (s : State) : State :=
  if s.pins.signal then { s with link := .acquiring, idleTimer := some 0 } else s

/-- A lane at the end of a hard reset: PAUSED at once where its WAIT line is asserted (R114). -/
def laneAfterReset (l : Lane) (s : State) : State :=
  if s.waitHigh l then s.setLane l { s.lane l with state := .paused } else s

/-- A hard reset: the straps as they stand are sampled, and every block takes its hard-reset values. The pins, the
commands that wait and the count of used free values are not the gate's registers and stay. -/
def hardReset (s : State) : State :=
  laneAfterReset .b (laneAfterReset .a (linkAfterReset
    { State.reset with
      pins := s.pins
      gateNumber := s.pins.straps
      freeCount := s.freeCount
      pending := s.pending }))

end Sys2Proof.Machine
end

