-- ==== Sys2Proof/Machine/Continuity.lean ====
section
/-! DEFINITION. The Continuity Checker (chapter 3): the verdict of a frame and what the header event does with it. -/

namespace Sys2Proof.Machine

open Sys2Proof

/-- What a judgement decides: the verdict, and the slot's continuity fields after it. -/
structure Judgement where
  verdict : Verdict
  expected : Option (BitVec 16)
  behindRun : Fin 4
deriving DecidableEq, Repr

/-- The distance of a sequence number from the expectation (R46). -/
def sequenceDistance (sequence expected : BitVec 16) : BitVec 16 := sequence - expected

/-- The judgement of a frame by its sequence number and the slot's continuity fields (R44 to R50). -/
def judge (mode : ContinuityMode) (expected : Option (BitVec 16)) (run : Fin 4) (sequence : BitVec 16) : Judgement :=
  match mode, expected with
  | .ignore, _ => ⟨.unchecked, none, 0⟩
  | .check, none => ⟨.first, some (sequence + 1), 0⟩
  | .check, some e =>
    let d := sequenceDistance sequence e
    if d = 0 then ⟨.inOrder, some (sequence + 1), 0⟩
    else if d.toNat ≤ 32767 then ⟨.gap d, some (sequence + 1), 0⟩
    else if run = 3 then ⟨.restart, some (sequence + 1), 0⟩
    else ⟨.behind, some e, run + 1⟩

/-- The counters of an entry after a verdict (R36, R51). -/
def countVerdict (v : Verdict) (c : SlotCounters) : SlotCounters :=
  match v with
  | .gap d => { c with gapFrames := c.gapFrames + d.setWidth 32 }
  | .restart => { c with restarts := c.restarts + 1 }
  | _ => c

/-- The entry after a judgement: continuity fields and counters. -/
def judgedEntry (j : Judgement) (e : Entry) : Entry :=
  { e with
    expected := j.expected
    behindRun := j.behindRun
    counters := countVerdict j.verdict e.counters }

/-- The notices of a verdict (R47, R49): GAP with the distance and S, RESTART with the expectation before and S. -/
def noticeVerdict (k : Slot) (tag : Tag) (sequence : BitVec 16) (before : Option (BitVec 16)) (v : Verdict)
    (s : State) : State :=
  match v with
  | .gap d => raise .gap (some k) tag (detail16 d sequence) s
  | .restart => raise .restart (some k) tag (detail16 (before.getD 0) sequence) s
  | _ => s

/-- The stamp flags a verdict records (R51). -/
def verdictFlags (v : Verdict) : StampFlags :=
  match v with
  | .gap _ => { noStampFlags with gapBefore := true }
  | .restart => { noStampFlags with restart := true }
  | _ => noStampFlags

end Sys2Proof.Machine
end

