-- ==== Sys2Proof/Machine/Egress.lean ====
section
/-! DEFINITION. The Egress Lanes (chapter 6) and the sending side of the Notice Unit (sections 9.4, R162): candidates,
the arbiter, send start and send end, the stall timer, and entry into BLOCKED. -/

namespace Sys2Proof.Machine

open Sys2Proof

/-! ### Notices and the notice lane (R160 to R162) -/

/-- The notice transmissions are held while the notice lane is BLOCKED (R162). -/
def noticesHeld (s : State) : Bool := s.blocked s.params.noticeLane

/-- The record the Notice Unit offers: of the due records the one whose next transmission time came longest ago, among
equals the first of the queue; none while the transmissions are held (R160). -/
def dueNotice (s : State) : Option Notice :=
  if noticesHeld s then none
  else oldest s.clock.time (·.nextTransmission) (s.notices.queue.filter fun n => decide (n.condition = .due))

/-- A retry timer runs out: retries left falls by one and the record is DUE from now (R160, R161). -/
def retryExpired (now : Time) (n : Notice) : Notice :=
  { n with
    retriesLeft := n.retriesLeft - 1
    condition := .due
    nextTransmission := now }

/-- Every running retry timer is compared with the interval in force, and those that have reached it run out
(R162, R164). -/
def compareRetries (s : State) : State :=
  { s with
    notices :=
      { s.notices with
        queue := s.notices.queue.map fun n =>
          match n.condition with
          | .waiting t => if retryLimitPeriods s.params ≤ t then retryExpired s.clock.time n else n
          | _ => n } }

/-- A hold of the transmissions ends: the timers resume, and are compared with the interval in force (R162, R164). -/
def endHold (before after : State) : State :=
  if noticesHeld before && !noticesHeld after then compareRetries after else after

/-- The Notice Unit's work at the send end of a record's frame (R161). A record no longer IN-FLIGHT under that sequence
is no longer in the queue, and nothing happens. An unchanged record without retries expires here during a hold too:
DESIGN CHOICE, unsafe, assumption log 34. -/
def noticeSendEnd (sequence : BitVec 16) (s : State) : State :=
  match s.notices.queue.find? (fun n => decide (n.sequence = sequence)) with
  | none => s
  | some n =>
    match n.condition with
    | .inFlight true =>
      { s with
        notices :=
          { s.notices with
            queue := s.notices.queue.map fun m =>
              if m.sequence = sequence then { m with condition := .due, nextTransmission := s.clock.time } else m } }
    | .inFlight false =>
      if n.retriesLeft = 0 then
        { s with
          notices := { s.notices with queue := s.notices.queue.filter fun m => decide (m.sequence ≠ sequence) }
          counters := { s.counters with noticesExpired := s.counters.noticesExpired + 1 } }
      else
        { s with
          notices :=
            { s.notices with
              queue := s.notices.queue.map fun m =>
                if m.sequence = sequence then { m with condition := .waiting 0 } else m } }
    | .due => s
    | .waiting _ => s

/-! ### Candidates and the arbiter (R98, R100, R101) -/

/-- Where a lane's next frame can come from. -/
inductive Source where
  | reply (r : Reply)
  | notice (n : Notice)
  | transit (d : DescNo)
  | data (d : DescNo)
deriving DecidableEq, Repr

/-- A candidate with its ready time (R100). -/
structure Candidate where
  source : Source
  ready : Time
deriving DecidableEq, Repr

/-- The due record as a candidate of a lane that is the notice lane. -/
def noticeCandidate (l : Lane) (s : State) : Option Candidate :=
  if s.params.noticeLane = l then (dueNotice s).map fun n => ⟨.notice n, n.nextTransmission⟩ else none

/-- The gate frame a lane is offered (R98): the oldest reply on the reply lane; else the due notice on the notice
lane. -/
def gateCandidate (l : Lane) (s : State) : Option Candidate :=
  if s.params.replyLane = l then
    match s.agent.replies with
    | r :: _ => some ⟨.reply r, r.created⟩
    | [] => noticeCandidate l s
  else noticeCandidate l s

/-- The head of lane A's transit queue (R97, R100). -/
def transitCandidate (l : Lane) (s : State) : Option Candidate :=
  match l, s.transitQueue with
  | .a, d :: _ => (s.desc d).map fun r => ⟨.transit d, r.ready.getD r.arrival⟩
  | _, _ => none

/-- The head of the release queue, once its release time has come (R100). -/
def dataCandidate (l : Lane) (s : State) : Option Candidate :=
  match (s.lane l).releaseQueue with
  | [] => none
  | d :: _ =>
    (s.desc d).bind fun r =>
      if hasCome s.clock.time r.release then some ⟨.data d, r.ready.getD r.release⟩ else none

/-- A lane's candidates in the order of ties: gate frame, transit frame, data frame (R101). -/
def candidates (l : Lane) (s : State) : List Candidate :=
  (gateCandidate l s).toList ++ (transitCandidate l s).toList ++ (dataCandidate l s).toList

/-- The lane has a candidate ready (R100). -/
def hasCandidate (l : Lane) (s : State) : Bool := !(candidates l s).isEmpty

/-- The arbiter's choice: the earliest ready time, ties in the order above (R101). -/
def arbiterChoice (l : Lane) (s : State) : Option Candidate := oldest s.clock.time (·.ready) (candidates l s)

/-! ### The stall timer (R106) -/

/-- The stall timer runs exactly while the lane is PAUSED and has a candidate ready: it starts from zero when both
first hold, and stops at zero when either stops holding. -/
def syncStall (l : Lane) (s : State) : State :=
  s.setLane l
    { s.lane l with
      stall :=
        if (s.lane l).state = .paused ∧ hasCandidate l s = true then some ((s.lane l).stall.getD 0) else none }

/-- Candidacy is judged continuously (R100): every command ends with both lanes' stall timers judged anew. Within one
command a lane may lose its last candidate and gain a new one, and whether its timer then returns to zero is not said;
it runs on, since it is judged only at the end and before a reply is created (assumption log 15): DESIGN CHOICE, unsafe,
assumption log 37. -/
def settle (s : State) : State := syncStall .b (syncStall .a s)

/-! ### The release queue (R96) -/

/-- Whether descriptor `x` stands before `d` in a release queue: by release time, ties by admission order. -/
def standsBefore (s : State) (x d : DescNo) : Bool :=
  match s.desc x, s.desc d with
  | some rx, some rd =>
    releaseEarlier rx.release rd.release ||
      (decide (rx.release = rd.release) && admittedBefore rx.order rd.order)
  | _, _ => false

/-- The queue with a descriptor at the place its release time and admission order give it. -/
def insertRelease (s : State) (d : DescNo) : List DescNo → List DescNo
  | [] => [d]
  | x :: xs => if standsBefore s x d then x :: insertRelease s d xs else d :: x :: xs

/-- A completed descriptor enters a lane's release queue (R88, R96). -/
def enqueueRelease (l : Lane) (d : DescNo) (s : State) : State :=
  s.setLane l { s.lane l with releaseQueue := insertRelease s d (s.lane l).releaseQueue }

/-! ### Gate frames (R144, R160) -/

/-- A frame of the gate's own: header, payload, check word (section 11.1). -/
def gateFrame (kind : Byte) (gateNumber : Byte) (sequence : BitVec 16) (origin : Time) (payload : List Byte) :
    List Byte :=
  withCheckWord
    (encodeHeader
        { kind := kind
          flags := ownFrameFlags
          tag := sourceTag gateNumber
          sequence := sequence
          payloadLength := BitVec.ofNat 16 payload.length
          originTime := origin } ++
      payload)

/-- The REPLY frame of a reply record, built at its send start (R144). -/
def replyFrame (s : State) (r : Reply) : List Byte :=
  gateFrame 4 s.gateNumber s.agent.ownSequence r.created (replyPayload r)

/-- The NOTICE frame of a record as it stands at its send start (R160). -/
def noticeFrame (s : State) (n : Notice) : List Byte :=
  gateFrame 5 s.gateNumber s.agent.ownSequence s.clock.time (noticePayload s.params.noticeDestination n)

/-! ### Send start (R102, R103) -/

/-- The lane's copy marked for discontinuity: LANE-DISCONTINUITY set in the last stamp's flags, the byte before the
check word, and a check word that is correct over the copy (R103). -/
def markDiscontinuity (frame : List Byte) : List Byte :=
  withCheckWord
    ((frame.take (frame.length - 4)).modify (frame.length - 5) fun b => b ||| laneDiscontinuityBit)

/-- The frame a lane sends for a stream descriptor: the stored frame, or its marked copy when the stream's flag for the
lane is set and the descriptor is stamped (R102, R103). -/
def streamCopy (r : Descriptor) (discontinuity : Bool) : List Byte :=
  if discontinuity && r.stamped then markDiscontinuity (r.data.take r.frameLength) else r.data.take r.frameLength

/-- A lane enters SENDING with its send in progress (R102). -/
def beginSend (l : Lane) (item : SendItem) (frame : List Byte) (s : State) : State :=
  s.setLane l
    { s.lane l with
      state := .sending
      sending := some ⟨item, frame, 0⟩ }

/-- A stream descriptor leaves the head of the release queue, and the lane clears the stream's discontinuity flag
(R103). -/
def startData (l : Lane) (d : DescNo) (s : State) : State :=
  match s.desc d with
  | none => s
  | some r =>
    let t := s.setLane l { s.lane l with releaseQueue := (s.lane l).releaseQueue.tail }
    match r.stream with
    | .slot k =>
      beginSend l (.descriptor d) (streamCopy r ((s.entry k).discontinuity l))
        (t.modifyEntry k (·.clearDiscontinuity l))
    | .transit => beginSend l (.descriptor d) (streamCopy r false) t

/-- A transit descriptor leaves the head of the transit queue and is sent unchanged. -/
def startTransit (l : Lane) (d : DescNo) (s : State) : State :=
  match s.desc d with
  | none => s
  | some r =>
    beginSend l (.descriptor d) (streamCopy r false) { s with transitQueue := s.transitQueue.tail }

/-- A gate frame takes the own-frame sequence number (R102, R145). -/
def takeSequence (s : State) : State :=
  { s with agent := { s.agent with ownSequence := s.agent.ownSequence + 1 } }

/-- The oldest reply leaves the reply queue (R102, R143). -/
def startReply (l : Lane) (r : Reply) (s : State) : State :=
  beginSend l (.reply r) (replyFrame s r)
    (takeSequence { s with agent := { s.agent with replies := s.agent.replies.tail } })

/-- A notice record becomes IN-FLIGHT and stays in its queue (R102, R160). -/
def startNotice (l : Lane) (n : Notice) (s : State) : State :=
  beginSend l (.notice n.sequence) (noticeFrame s n)
    (takeSequence
      { s with
        notices :=
          { s.notices with
            queue := s.notices.queue.map fun m =>
              if m.sequence = n.sequence then { m with condition := .inFlight false } else m } })

/-- The send of the arbiter's choice starts (R102). -/
def startSource (l : Lane) : Source → State → State
  | .reply r, s => startReply l r s
  | .notice n, s => startNotice l n s
  | .transit d, s => startTransit l d s
  | .data d, s => startData l d s

/-- An IDLE lane with a candidate ready starts the send of the arbiter's choice; any other lane starts none (R101). -/
def sendStart (l : Lane) (s : State) : State :=
  if (s.lane l).state = .idle then
    match arbiterChoice l s with
    | none => s
    | some c => startSource l c.source s
  else s

/-! ### Entry into BLOCKED (R109, R110) -/

/-- Why a lane entered BLOCKED (R109): STALL is 0, REQUEST is 1 in the notice. -/
inductive BlockCause where
  | stall
  | request
deriving DecidableEq, Repr

/-- The code of a cause (section 11.4). -/
def causeByte : BlockCause → Byte
  | .stall => 0
  | .request => 1

/-- Every reply in the queue is discarded, and each is counted in replies lost (R110). -/
def discardReplies (s : State) : State :=
  { s with
    agent := { s.agent with replies := [] }
    counters := { s.counters with repliesLost := s.counters.repliesLost + BitVec.ofNat 32 s.agent.replies.length } }

/-- What a lane's queues hold: its release queue and, for lane A, the transit queue. -/
def laneQueues (l : Lane) (s : State) : List DescNo :=
  match l with
  | .a => (s.lane l).releaseQueue ++ s.transitQueue
  | .b => (s.lane l).releaseQueue

/-- The lane is BLOCKED with empty queues and its stall timer stopped. -/
def closeLane (l : Lane) (s : State) : State :=
  let t :=
    s.setLane l
      { s.lane l with
        state := .blocked
        releaseQueue := []
        stall := none }
  match l with
  | .a => { t with transitQueue := [] }
  | .b => t

/-- A lane enters BLOCKED: it drops its queues, LANE-BLOCKED is raised with the lane, the cause and the number of
descriptors dropped, and a reply lane discards the replies (R109, R110). The drops go in queue order, LANE-BLOCKED after
them (DEDUCED, unsafe, assumption log 12). -/
def enterBlocked (l : Lane) (cause : BlockCause) (s : State) : State :=
  let dropped := laneQueues l s
  let t := dropped.foldl (fun t d => dropLane l d t) (closeLane l s)
  let u :=
    raise .laneBlocked none noTag (detail16 (laneByte l ++ causeByte cause) (BitVec.ofNat 16 dropped.length)) t
  if u.params.replyLane = l then discardReplies u else u

/-! ### Send end (R104) -/

/-- What the lane does with the item it has sent (R104). The end of a RESTART's reply is judged after the command
(R152). -/
def finishItem (l : Lane) (item : SendItem) (s : State) : State :=
  match item with
  | .reply _ => s
  | .notice sequence => noticeSendEnd sequence s
  | .descriptor d =>
    match s.desc d with
    | none => s
    | some r =>
      match r.stream with
      | .slot _ => leaveLane l d s
      | .transit => leaveLane l d (s.count fun c => { c with transitForwarded := c.transitForwarded + 1 })

/-- The lane's next state after a send: BLOCKED from BLOCK-PENDING, else PAUSED or IDLE by its WAIT line (R104). -/
def afterSend (l : Lane) (before : LaneState) (s : State) : State :=
  match before with
  | .blockPending => enterBlocked l .request s
  | _ => s.setLane l { s.lane l with state := if s.waitHigh l then .paused else .idle }

/-- A send end: the item's work, then the lane's next state (R104). A lane with no send in progress has none. -/
def sendEnd (l : Lane) (s : State) : State :=
  match (s.lane l).sending with
  | none => s
  | some snd =>
    afterSend l (s.lane l).state (finishItem l snd.item (s.setLane l { s.lane l with sending := none }))

/-! ### WAIT (R105) -/

/-- The level of a lane's WAIT line changes. -/
def setWait (l : Lane) (level : Bool) (s : State) : State :=
  match l with
  | .a => { s with pins := { s.pins with waitA := level } }
  | .b => { s with pins := { s.pins with waitB := level } }

/-- An IDLE lane becomes PAUSED when WAIT is asserted; every other lane goes on (R105). -/
def waitAsserted (l : Lane) (s : State) : State :=
  if (s.lane l).state = .idle then s.setLane l { s.lane l with state := .paused } else s

/-- A PAUSED lane becomes IDLE when WAIT is released (R105). -/
def waitReleased (l : Lane) (s : State) : State :=
  if (s.lane l).state = .paused then s.setLane l { s.lane l with state := .idle } else s

end Sys2Proof.Machine
end

