-- ==== Sys2Proof/Machine/Admission.lean ====
section
/-! DEFINITION. Admission and the Hold Buffer (chapter 5): reservations at the header event, completion and
abandonment at the end event, arrival stamps, and FLUSH. -/

namespace Sys2Proof.Machine

open Sys2Proof

/-! ### Lengths (section 1.4, R78) -/

/-- The declared length of a frame: 14 + payload length + 8 × stamp count + 4. -/
def declaredLength (payloadLength : BitVec 16) (flags : Byte) : Nat :=
  14 + payloadLength.toNat + 8 * stampCount flags + 4

/-- The cells a stored length needs: 64 bytes each, rounded up. -/
def cellsNeeded (length : Nat) : Nat := (length + 63) / 64

/-- This gate's stamp will be written: stamping ON and 0 to 3 stamps on the frame (R78). -/
def willStamp (config : EntryConfig) (flags : Byte) : Bool := config.stamping && decide (stampCount flags ≤ 3)

/-- The stamp is skipped: stamping ON and four stamps on the frame (R85). -/
def stampSkipped (config : EntryConfig) (flags : Byte) : Bool := config.stamping && decide (stampCount flags = 4)

/-- The stored length of a stream frame (R78). -/
def storedLength (config : EntryConfig) (c : Context) : Nat :=
  if willStamp config c.flags then c.declared + 8 else c.declared

/-! ### Reservation (R75 to R78, R86) -/

/-- The pools have a FREE descriptor and the cells a stored length needs (R85, R87). -/
def poolHas (s : State) (length : Nat) : Bool :=
  decide (1 ≤ s.freeDescs) && decide (cellsNeeded length ≤ s.pool.freeCells.length)

/-- The FREE descriptor a reservation takes: the lowest numbered (DESIGN CHOICE, unsafe, assumption log 9). -/
def freeDescriptor (s : State) : Option DescNo := allDescs.find? fun d => (s.desc d).isNone

/-- What a reservation is made for. -/
structure ReservationFor where
  stream : Stream
  arrival : Time
  release : Time
  remaining : LaneSet
  length : Nat
  stampFlags : StampFlags
  data : List Byte

/-- The record of a RESERVED descriptor (R77, R86). -/
def reservedDescriptor (f : ReservationFor) (order : BitVec 32) (cells : List Nat) : Descriptor :=
  { condition := .reserved
    stream := f.stream
    order := order
    arrival := f.arrival
    release := f.release
    ready := none
    remaining := f.remaining
    cells := cells
    frameLength := f.length
    stampFlags := f.stampFlags
    stamped := false
    data := f.data }

/-- The pools after a reservation: the descriptor is RESERVED, its cells leave the free list, and the admission count
rises by one (R78). -/
def takeReservation (f : ReservationFor) (d : DescNo) (s : State) : State :=
  ({ s with
      pool :=
        { s.pool with
          freeCells := s.pool.freeCells.drop (cellsNeeded f.length)
          admissionCount := s.pool.admissionCount + 1 } }).setDesc d
    (some (reservedDescriptor f s.pool.admissionCount (s.pool.freeCells.take (cellsNeeded f.length))))

/-! ### Release time (R81, R82) -/

/-- The admission horizon: 2^27 clock units. -/
def admissionHorizon : Nat := 2 ^ 27

/-- The outcome of the release-time decision. -/
inductive ReleaseDecision where
  | late
  | tooEarly
  | release (t : Time) (lateMark unaligned : Bool)
deriving DecidableEq, Repr

/-- A release time computed from the origin time, tested against the arrival time (R82). -/
def testRelease (policy : LatePolicy) (arrival t : Time) : ReleaseDecision :=
  if hasCome arrival t then
    match policy with
    | .discard => .late
    | .forwardMarked => .release arrival true false
  else if admissionHorizon ≤ (t - arrival).toNat then .tooEarly
  else .release t false false

/-- The release time by timing mode, origin time and clock state (R81, R82). -/
def decideRelease (config : EntryConfig) (arrival : Time) (origin : Option Time) (clock : ClockState) :
    ReleaseDecision :=
  match config.timing with
  | .pass => .release arrival false false
  | .arrivalDelayed => .release (arrival + config.holdOffset.setWidth 48) false false
  | .originAligned =>
    if clock = .free then .release arrival false true
    else
      match origin with
      | none => .release (arrival + config.holdOffset.setWidth 48) false true
      | some o => testRelease config.latePolicy arrival (o + config.holdOffset.setWidth 48)

/-- The stamp flags after step 2: HOLDOVER while the clock is in HOLDOVER, LATE and UNALIGNED as decided. -/
def releaseFlags (f : StampFlags) (clock : ClockState) (lateMark unaligned : Bool) : StampFlags :=
  { f with
    late := f.late || lateMark
    unaligned := f.unaligned || unaligned
    holdover := f.holdover || decide (clock = .holdover) }

/-! ### Lanes (R83) -/

/-- A lane of the configured set that is BLOCKED is left out, with its loss counted. -/
def skipBlocked (k : Slot) (lanes : LaneSet) (l : Lane) (s : State) : State :=
  if lanes.has l && s.blocked l then s.modifyEntry k (·.laneLost l) else s

/-- The admitted lane set: the configured lanes that are not BLOCKED. -/
def admittedLanes (lanes : LaneSet) (s : State) : LaneSet :=
  ⟨lanes.a && !s.blocked .a, lanes.b && !s.blocked .b⟩

/-! ### Admission of a classified frame (R79 to R86) -/

/-- A state with the reception context as decided so far. -/
structure HeaderWork where
  state : State
  context : Context

/-- Step 5: the reservation, or the discard for want of a descriptor or cells (R85, R86). -/
def admitPool (cl : Classified) (release : Time) (lanes : LaneSet) (data : List Byte) (w : HeaderWork) : HeaderWork :=
  let s := w.state
  let c := w.context
  match poolHas s (storedLength cl.config c), freeDescriptor s with
  | true, some d =>
    let f : ReservationFor :=
      { stream := .slot cl.slot
        arrival := c.arrival
        release := release
        remaining := lanes
        length := storedLength cl.config c
        stampFlags := c.stampFlags
        data := data }
    let t := (takeReservation f d s).modifyEntry cl.slot fun e => { e with held := e.held + 1 }
    let u :=
      if stampSkipped cl.config c.flags then
        t.count fun g => { g with stampsSkipped := g.stampsSkipped + 1 }
      else t
    ⟨u, { c with admission := .reserved, reservation := some d }⟩
  | _, _ =>
    ⟨raise .poolExhausted (some cl.slot) c.tag
        (detail16 (BitVec.ofNat 16 s.freeDescs) (BitVec.ofNat 16 s.pool.freeCells.length)) s,
      { c with admission := .pool }⟩

/-- Step 4: the hold quota (R84). -/
def admitQuota (cl : Classified) (release : Time) (lanes : LaneSet) (data : List Byte) (w : HeaderWork) : HeaderWork :=
  let e := w.state.entry cl.slot
  if cl.config.holdQuota.toNat ≤ e.held then
    ⟨raise .quota (some cl.slot) w.context.tag
        (detail16 (cl.config.holdQuota.setWidth 16) (BitVec.ofNat 16 e.held)) w.state,
      { w.context with admission := .quota }⟩
  else admitPool cl release lanes data w

/-- Step 3: lanes that are BLOCKED (R83). -/
def admitLanes (cl : Classified) (release : Time) (data : List Byte) (w : HeaderWork) : HeaderWork :=
  let lanes := admittedLanes cl.config.lanes w.state
  let s := skipBlocked cl.slot cl.config.lanes .b (skipBlocked cl.slot cl.config.lanes .a w.state)
  if lanes.isEmpty then ⟨s, { w.context with admission := .keptWithoutStorage }⟩
  else admitQuota cl release lanes data ⟨s, w.context⟩

/-- Step 2: the release time (R81, R82). -/
def admitRelease (cl : Classified) (data : List Byte) (w : HeaderWork) : HeaderWork :=
  let clock := w.state.clock.state
  let mark := fun lateMark unaligned =>
    { w.context with stampFlags := releaseFlags w.context.stampFlags clock lateMark unaligned }
  match decideRelease cl.config w.context.arrival w.context.origin clock with
  | .late => ⟨w.state, { mark false false with admission := .late }⟩
  | .tooEarly => ⟨w.state, { mark false false with admission := .tooEarly }⟩
  | .release t lateMark unaligned => admitLanes cl t data ⟨w.state, mark lateMark unaligned⟩

/-- Steps 0 and 1, then the rest: a MUTED entry's frame and a BEHIND frame are discarded at once (R79, R80). -/
def admitStream (cl : Classified) (data : List Byte) (w : HeaderWork) : HeaderWork :=
  if cl.state = .muted then ⟨w.state, { w.context with admission := .muted }⟩
  else if w.context.verdict = .behind then ⟨w.state, { w.context with admission := .behind }⟩
  else admitRelease cl data w

/-! ### Transit admission (R87) -/

/-- The most transit descriptors in use (R76). -/
def transitLimit : Nat := 32

/-- A frame handled as transit is reserved for lane A, or dropped and counted. -/
def admitTransit (data : List Byte) (w : HeaderWork) : HeaderWork :=
  let s := w.state
  let c := w.context
  match !s.blocked .a && decide (s.transitCount < transitLimit) && poolHas s c.declared, freeDescriptor s with
  | true, some d =>
    let f : ReservationFor :=
      { stream := .transit
        arrival := c.arrival
        release := c.arrival
        remaining := ⟨true, false⟩
        length := c.declared
        stampFlags := noStampFlags
        data := data }
    ⟨takeReservation f d s, { c with admission := .transitReserved, reservation := some d }⟩
  | _, _ =>
    ⟨s.count fun g => { g with transitDropped := g.transitDropped + 1 }, { c with admission := .transitDropped }⟩

/-! ### Bytes into the cells (R86) -/

/-- A byte of the frame in reception goes to its reservation's cells, while it lies within the declared length. -/
def storeByte (c : Context) (received : Nat) (b : Byte) (s : State) : State :=
  match c.reservation with
  | none => s
  | some d =>
    match s.desc d with
    | none => s
    | some r => if received ≤ c.declared then s.setDesc d (some { r with data := r.data ++ [b] }) else s

/-! ### Completion (R88 to R91) -/

/-- The arrival stamp this gate writes (R89). -/
def arrivalStamp (arrival : Time) (gateNumber : Byte) (f : StampFlags) : List Byte :=
  bytes48 arrival ++ [gateNumber, stampFlagsByte f]

/-- The stored frame with this gate's stamp: the stamp count raised, the stamp after the existing ones, and a new
check word in place of the one received (R88). `frame` is the frame as received. -/
def stampFrame (frame : List Byte) (stamp : List Byte) : List Byte :=
  withCheckWord (((frame.take (frame.length - 4)).modify 1 raiseStampCount) ++ stamp)

/-- The ready time at completion: the later of the release time and this end event (R88). -/
def readyTime (now release : Time) : Time := if hasCome now release then now else release

/-- The descriptor of a completed stream frame (R88, R90): the ERRORED flag is added to a stamp written for a
BAD-CHECK frame. -/
def completedStream (now : Time) (gateNumber : Byte) (stamp errored : Bool) (r : Descriptor) : Descriptor :=
  let flags := if stamp && errored then { r.stampFlags with errored := true } else r.stampFlags
  let data := if stamp then stampFrame r.data (arrivalStamp r.arrival gateNumber flags) else r.data
  { r with
    condition := .held
    ready := some (readyTime now r.release)
    stampFlags := flags
    stamped := stamp
    data := data
    frameLength := data.length }

/-- A completed descriptor meets one lane of its remaining set: left out with its loss counted where the lane is
BLOCKED, else entered in its release queue (R88). -/
def completeOnLane (lanes : LaneSet) (d : DescNo) (s : State) (l : Lane) : State :=
  if lanes.has l then
    if s.blocked l then dropLane l d s else enqueueRelease l d s
  else s

/-- A RESERVED stream frame is completed (R88, R90). -/
def completeStream (cl : Classified) (flags : Byte) (errored : Bool) (d : DescNo) (s : State) : State :=
  match s.desc d with
  | none => s
  | some r =>
    let t :=
      s.setDesc d (some (completedStream s.clock.time s.gateNumber (willStamp cl.config flags) errored r))
    [Lane.a, Lane.b].foldl (completeOnLane r.remaining d) t

/-- A RESERVED transit frame is completed into lane A's transit queue, or dropped where lane A is BLOCKED (R91). -/
def completeTransit (d : DescNo) (s : State) : State :=
  match s.desc d with
  | none => s
  | some r =>
    let t :=
      s.setDesc d
        (some
          { r with
            condition := .held
            ready := some s.clock.time
            frameLength := r.data.length })
    if t.blocked .a then dropLane .a d t else { t with transitQueue := t.transitQueue ++ [d] }

/-- What the end event does with the reservation of the frame in reception (R88, R90, R91). -/
def endReservation (c : Context) (outcome : EndOutcome) (d : DescNo) (s : State) : State :=
  match c.classified, outcome with
  | some cl, .good => completeStream cl c.flags false d s
  | some cl, .badCheck =>
    match cl.config.errorPolicy with
    | .discard => freeDesc d s
    | .passMarked => completeStream cl c.flags true d s
  | some _, .truncated => freeDesc d s
  | some _, .overlong => freeDesc d s
  | none, .good => completeTransit d s
  | none, .badCheck => completeTransit d s
  | none, .truncated => freeDesc d s
  | none, .overlong => freeDesc d s

/-! ### FLUSH (R35, R54, R93, R94) -/

/-- The reservation of the frame in reception is given back, and the context records that a FLUSH came between
(R93). -/
def flushReservation (s : State) : State :=
  match s.context.bind (·.reservation) with
  | none => s.modifyContext fun c => { c with flushed := true }
  | some d =>
    let t :=
      match (s.desc d).map (·.stream) with
      | some .transit => s.count fun g => { g with transitDropped := g.transitDropped + 1 }
      | _ => s
    (freeDesc d t).modifyContext fun c => { c with flushed := true, reservation := none }

/-- A lane is sending a descriptor. -/
def sendingOn (s : State) (d : DescNo) (l : Lane) : Bool :=
  match (s.lane l).sending with
  | some snd => decide (snd.item = .descriptor d)
  | none => false

/-- A HELD descriptor at a FLUSH: it leaves every lane of its remaining set that is not sending it, with the losses
counted; with no lane left it is freed (R94). -/
def flushDescriptor (s : State) (d : DescNo) : State :=
  match s.desc d with
  | none => s
  | some r =>
    if r.condition = .held then
      [Lane.a, Lane.b].foldl
        (fun t l => if r.remaining.has l && !sendingOn s d l then dropLane l d t else t) s
    else s

/-- The queues that the FLUSH empties. -/
def emptyQueues (s : State) : State :=
  { s with
    laneA := { s.laneA with releaseQueue := [] }
    laneB := { s.laneB with releaseQueue := [] }
    transitQueue := [] }

/-- Every slot's expected sequence becomes absent and its behind run 0 (R54). -/
def clearContinuity (s : State) : State :=
  { s with
    table := s.table.map fun e =>
      { e with
        expected := none
        behindRun := 0 } }

/-- FLUSH as one step (R148): the reservation of the frame in reception first, then the HELD descriptors by descriptor
number. No rule orders the descriptors of one FLUSH, and the order shows in the queue where several slots become VACANT,
each with its RETIRED notice (R35): DESIGN CHOICE, unsafe, assumption log 30. -/
def flushDatapath (s : State) : State :=
  clearContinuity (allDescs.foldl flushDescriptor (emptyQueues (flushReservation s)))

end Sys2Proof.Machine
end

