-- ==== Sys2Proof/Config.lean ====
section
/-! DEFINITION. What the manual leaves open as a value: the free values of the model. Nothing in Lean can evaluate
them, so a statement about one holds whatever it is. -/

namespace Sys2Proof

/-- The two tag bytes of a READ-TRAP answer whose filter tag is ANY. R172 returns the filter as in the ARM-TRAP
operands; R177 says that with tag select 1 the tag bytes are not read, and no rule says what they read back as.
The n-th such answer takes the n-th value. Assumption log 13, safe. -/
opaque Config.anyTagBytes (n : Nat) : Tag

end Sys2Proof
end

