-- ==== Sys2Proof/Machine/CaptureTrap.lean ====
section
/-! DEFINITION. The Capture Trap (chapter 10): filter, capture, record, arming, disarming and reading back. -/

namespace Sys2Proof.Machine

open Sys2Proof

/-- The bytes of the Trap Buffer (R167). -/
def trapCapacity : Nat := 1088

/-- The bytes one READ-TRAP returns at most (R172). -/
def trapWindow : Nat := 256

/-- The trap considers header events: ARMED, or HELD under CONTINUOUS (R169). -/
def trapConsiders (t : Trap) : Bool :=
  match t.state with
  | .armed => true
  | .held => decide (t.mode = .continuous)
  | .idle => false
  | .filling => false

/-- Admission found the frame late: kept with the LATE flag, or discarded with outcome LATE (R169). -/
def foundLate (c : Context) : Bool := c.stampFlags.late || decide (c.admission = .late)

/-- The verdict is GAP or RESTART (R51, R169). -/
def foundGap (v : Verdict) : Bool :=
  match v with
  | .gap _ => true
  | .restart => true
  | _ => false

/-- The condition as met at the header event; ERRORED is provisional (R169). -/
def conditionMet (t : Trap) (c : Context) : Bool :=
  match t.condition with
  | .any => true
  | .errored => true
  | .gap => foundGap c.verdict
  | .late => foundLate c

/-- A considered frame matches the filter (R169). -/
def trapMatches (t : Trap) (c : Context) : Bool :=
  (match t.filterTag with
    | none => true
    | some tag => decide (c.tag = tag)) &&
    (match t.filterKind with
      | none => true
      | some kind => decide (c.kind = kind)) &&
    conditionMet t c

/-- The frame is offered to the trap at its header event, with the bytes received (R17, R169). -/
def offerTrap (c : Context) (bytes : List Byte) (s : State) : State :=
  if trapConsiders s.trap && trapMatches s.trap c then
    { s with
      trap :=
        { s.trap with
          state := .filling
          buffer := bytes.take trapCapacity
          record := none } }
  else s

/-- While FILLING the trap copies each byte, up to 1088 (R170). -/
def copyByte (b : Byte) (s : State) : State :=
  if s.trap.state = .filling ∧ s.trap.buffer.length < trapCapacity then
    { s with trap := { s.trap with buffer := s.trap.buffer ++ [b] } }
  else s

/-- The capture record of a frame at its end event (R171). -/
def captureRecord (t : Trap) (c : Context) (outcome : EndOutcome) (received : Nat) : CaptureRecord :=
  { outcome := outcome
    receivedLength := min received 65535
    keptLength := t.buffer.length
    arrival := c.arrival
    cls := c.cls
    slot := c.classified.map (·.slot)
    verdict := c.verdict
    admission := c.admission
    stampFlags := c.stampFlags
    flushed := c.flushed }

/-- The end event of a frame being copied: an ERRORED trap drops a GOOD frame and is ARMED; else the capture is HELD
under the next generation, and ONE-SHOT raises TRAP-FILLED (R171). -/
def endCapture (c : Context) (outcome : EndOutcome) (received : Nat) (s : State) : State :=
  if s.trap.state = .filling then
    if s.trap.condition = .errored ∧ outcome = .good then
      { s with
        trap :=
          { s.trap with
            state := .armed
            buffer := []
            record := none } }
    else
      let t :=
        { s with
          trap :=
            { s.trap with
              state := .held
              record := some (captureRecord s.trap c outcome received)
              generation := s.trap.generation + 1 } }
      match s.trap.mode with
      | .oneShot =>
        raise .trapFilled none c.tag (detail16 (s.trap.generation + 1) (BitVec.ofNat 16 (min received 65535))) t
      | .continuous => t
  else s

/-- A filter and mode with a meaning (R168, R177). -/
structure TrapSetting where
  tag : Option Tag
  kind : Option Byte
  condition : TrapCondition
  mode : TrapMode
deriving DecidableEq, Repr

/-- GAP and LATE are judged for DATA frames alone (R168). -/
def conditionFits (condition : TrapCondition) (kind : Option Byte) : Bool :=
  match condition with
  | .any => true
  | .errored => true
  | .gap => decide (kind = some 1)
  | .late => decide (kind = some 1)

/-- The setting the operands of ARM-TRAP spell; none is BAD-VALUE (R168). -/
def trapSettingOf (o : TrapOperands) : Option TrapSetting := do
  let tag ← filterTagOf o.tagSelect o.tag
  let kind ← filterKindOf o.kind
  let condition ← trapConditionOf o.condition
  let mode ← trapModeOf o.mode
  if conditionFits condition kind then some ⟨tag, kind, condition, mode⟩ else none

/-- An accepted ARM-TRAP: any capture is discarded and the trap is ARMED with the new filter (R168). -/
def armTrap (x : TrapSetting) (s : State) : State :=
  { s with
    trap :=
      { s.trap with
        state := .armed
        filterTag := x.tag
        filterKind := x.kind
        condition := x.condition
        mode := x.mode
        buffer := []
        record := none } }

/-- DISARM-TRAP: IDLE from any state, the capture discarded (R173). -/
def disarmTrap (s : State) : State :=
  { s with
    trap :=
      { s.trap with
        state := .idle
        buffer := []
        record := none } }

/-- The data of a READ-TRAP answer: generation, filter and mode, capture record, and the window of bytes (R172,
section 11.4). -/
def trapData (t : Trap) (anyTag : Tag) (r : CaptureRecord) (offset : Nat) : List Byte :=
  bytes16 t.generation ++ trapFilterBytes t anyTag ++ captureRecordBytes r ++
    ((t.buffer.drop offset).take trapWindow)

end Sys2Proof.Machine
end

