-- ==== Sys2Proof/Machine/ChangeStage.lean ====
section
/-! DEFINITION. The Change Stage (chapter 7): staging, ownership, the staging timer, validation, application, and the
commit signal of the Gate Clock. -/

namespace Sys2Proof.Machine

open Sys2Proof

/-! ### The Pending Change List (R115, R116) -/

/-- The most changes the list holds. -/
def changeCapacity : Nat := 16

/-- The slot a change names. -/
def Change.slot : Change → Slot
  | .setEntry slot _ _ _ => slot
  | .retire slot => slot

/-- The change the list holds for a slot. -/
def changeFor (changes : List Change) (k : Slot) : Option Change := changes.find? fun c => decide (c.slot = k)

/-- The list with a change staged: in place of the change for its slot, or at the tail (R115). -/
def stageInto (changes : List Change) (c : Change) : List Change :=
  if (changeFor changes c.slot).isSome then changes.map fun x => if x.slot = c.slot then c else x
  else changes ++ [c]

/-- The empty list: no owner, commit state IDLE, staging timer stopped (R115, R117, R118, R127). -/
def emptyStage : Stage := Stage.reset

/-- The staging timer restarts from zero where it is running (R118). -/
def restartStaging (m : Byte) (s : State) : State :=
  if s.stage.owner = some m then { s with stage := { s.stage with timer := s.stage.timer.map fun _ => 0 } } else s

/-- The staging timer expires: the list is emptied, the owner released and STAGING-EXPIRED raised (R118). -/
def stagingExpired (s : State) : State :=
  raise .stagingExpired none noTag
    (detail8 (s.stage.owner.getD 0) (byteOf s.stage.changes.length) 0 0)
    { s with stage := emptyStage }

/-- Check 1 of R120 (R117): the list is empty, or the requester is its owner. -/
def ownedElsewhere (m : Byte) (st : Stage) : Bool :=
  match st.owner with
  | none => false
  | some o => decide (o ≠ m)

/-- Check 2 of R120: the list is frozen while a commit is scheduled (R124). -/
def stageFrozen (st : Stage) : Bool :=
  match st.commit with
  | .idle => false
  | .scheduled _ => true

/-- The position of the change for a slot. -/
def changeIndex (changes : List Change) (k : Slot) : Nat := changes.findIdx fun c => decide (c.slot = k)

/-! ### Validation (R125) -/

/-- The tag a slot would hold after the list (R125). A RETIRE staged for a VACANT slot counts the tag the slot reads, by
the second line of R125, where R24 says that a VACANT entry's tag counts for nothing in tag uniqueness: DESIGN CHOICE,
unsafe, assumption log 35. -/
def tagAfter (s : State) (k : Slot) : Option Tag :=
  match changeFor s.stage.changes k with
  | some (.setEntry _ _ config _) => some config.tag
  | some (.retire _) => some (s.entry k).config.tag
  | none => if (s.entry k).state = .vacant then none else some (s.entry k).config.tag

/-- Another slot holds the tag after the list. -/
def tagTaken (s : State) (k : Slot) (tag : Tag) : Bool :=
  allSlots.any fun j => decide (j ≠ k) && decide (tagAfter s j = some tag)

/-- The reason a change fails for, none where it passes (R125). -/
def changeFailure (s : State) : Change → Option Result
  | .setEntry k _ config _ =>
    match (s.entry k).state with
    | .retiring => some .slotRetiring
    | .vacant => if tagTaken s k config.tag then some .duplicateTag else none
    | .active =>
      if config.tag ≠ (s.entry k).config.tag then some .tagChange
      else if tagTaken s k config.tag then some .duplicateTag
      else none
    | .muted =>
      if config.tag ≠ (s.entry k).config.tag then some .tagChange
      else if tagTaken s k config.tag then some .duplicateTag
      else none
  | .retire k =>
    match (s.entry k).state with
    | .active => none
    | .muted => none
    | .vacant => some .state
    | .retiring => some .state

/-- A commit's failing change: the first in list order that fails, with its index and reason (R125). -/
structure Failure where
  index : Nat
  change : Change
  reason : Result
deriving DecidableEq, Repr

/-- The first failing change from a position of the list on. -/
def firstFailure (s : State) (index : Nat) : List Change → Option Failure
  | [] => none
  | c :: cs =>
    match changeFailure s c with
    | some reason => some ⟨index, c, reason⟩
    | none => firstFailure s (index + 1) cs

/-- Validation of the whole list against the table as it stands (R125). -/
def validate (s : State) : Option Failure := firstFailure s 0 s.stage.changes

/-! ### Application (R127) -/

/-- The state a change commits into. -/
def CommitInto.entryState : CommitInto → EntryState
  | .active => .active
  | .muted => .muted

/-- SET-ENTRY on a VACANT slot (R25): configured fields and state from the change, counters zero, continuity and last
arrival absent, discontinuity flags clear; the held count stays. -/
def createEntry (into : CommitInto) (config : EntryConfig) (e : Entry) : Entry :=
  { Entry.reset with
    state := into.entryState
    config := config
    held := e.held }

/-- SET-ENTRY on an ACTIVE or MUTED slot (R26): configured fields and state replaced; continuity cleared only with the
reset-continuity option. -/
def alterEntry (into : CommitInto) (config : EntryConfig) (reset : Bool) (e : Entry) : Entry :=
  { e with
    state := into.entryState
    config := config
    expected := if reset then none else e.expected
    behindRun := if reset then 0 else e.behindRun }

/-- RETIRE (R27): VACANT at once with RETIRED when the held count is 0 and the slot is not engaged, else RETIRING. -/
def retireEntry (k : Slot) (s : State) : State :=
  if (s.entry k).held = 0 ∧ s.engaged ≠ some k then vacate k s
  else s.modifyEntry k fun e => { e with state := .retiring }

/-- One change applied (R127). -/
def applyChange (s : State) : Change → State
  | .setEntry k into config reset =>
    s.modifyEntry k fun e =>
      if e.state = .vacant then createEntry into config e else alterEntry into config reset e
  | .retire k => retireEntry k s

/-- The whole list applied in one step; the list is empty, the owner released, the timer stopped (R127). RETIRED notices
enter in list order (DEDUCED, unsafe, assumption log 12). -/
def applyChanges (s : State) : State := { s.stage.changes.foldl applyChange s with stage := emptyStage }

/-! ### The scheduled commit (R131) -/

/-- The tag field of COMMIT-FAILED: the staged tag of a SET-ENTRY, the slot's current tag for a RETIRE. -/
def failureTag (s : State) : Change → Tag
  | .setEntry _ _ config _ => config.tag
  | .retire k => (s.entry k).config.tag

/-- The Gate Clock signals that T has come: the list is validated and applied with COMMIT-DONE, or kept with
COMMIT-FAILED and the staging timer restarted; the commit state is IDLE either way. -/
def commitSignal (s : State) : State :=
  match validate s with
  | none =>
    raise .commitDone none noTag
      (detail8 (byteOf s.stage.changes.length) (s.stage.owner.getD 0) 0 0)
      (applyChanges s)
  | some f =>
    raise .commitFailed none (failureTag s f.change)
      (detail8 (byteOf f.index) (resultByte f.reason) (byteOf f.change.slot.val) (s.stage.owner.getD 0))
      { s with
        stage :=
          { s.stage with
            commit := .idle
            timer := some 0 } }

/-- The watch on a scheduled commit: the signal is given once T has come (R73). -/
def watchCommit (s : State) : State :=
  match s.stage.commit with
  | .idle => s
  | .scheduled t => if hasCome s.clock.time t then commitSignal s else s

end Sys2Proof.Machine
end

