-- ==== Sys2Proof/Machine/GateClock.lean ====
section
/-! DEFINITION. The Gate Clock (chapter 4): counting and slewing, the use of TIME frames, holdover, TIME-SET; and the
passing of reference-clock time for the whole gate. -/

namespace Sys2Proof.Machine

open Sys2Proof

/-! ### Counting and slewing (R57, R66) -/

/-- The units of correction that fall in the next `n` periods: one for each time the slew interval reaches 4096, at
most the pending correction. -/
def slewUnits (c : Clock) (n : Nat) : Nat := min c.pending.natAbs ((c.slew + n) / slewPeriods)

/-- The pending correction after `u` units have been applied, moved toward 0. -/
def slewed (pending : Int) (u : Nat) : Int := if 0 ≤ pending then pending - u else pending + u

/-- How far the count moves in `n` periods: a positive unit adds one, a negative unit holds one (R66). -/
def countAdvance (c : Clock) (n : Nat) : Int :=
  if 0 ≤ c.pending then (n : Int) + slewUnits c n else (n : Int) - slewUnits c n

/-- The clock after `n` periods of the reference clock. The slew interval counts only while the pending correction is
not 0, and restarts at zero with each unit applied (R66). -/
def clockAfter (c : Clock) (n : Nat) : Clock :=
  { c with
    time := c.time + BitVec.ofInt 48 (countAdvance c n)
    pending := slewed c.pending (slewUnits c n)
    slew :=
      if c.pending = 0 then c.slew
      else if slewed c.pending (slewUnits c n) = 0 then 0
      else c.slew + n - slewPeriods * slewUnits c n
    holdover := c.holdover.map (· + n) }

/-- The periods until the count has moved `d` ahead, slewing included: the least number of them. With D the distance
from the start of the slew interval, a positive correction of p units saves one period in each 4097 counts, at most p;
a negative one costs one in each 4095, at most p. -/
def periodsUntil (c : Clock) (d : Nat) : Nat :=
  if d = 0 then 0
  else if 0 ≤ c.pending then d + c.slew - min c.pending.natAbs ((d + c.slew) / (slewPeriods + 1)) - c.slew
  else d + c.slew + min c.pending.natAbs ((d + c.slew - 1) / (slewPeriods - 1)) - c.slew

/-! ### The passing of time for every timer (R58) -/

/-- A lane's timers after `n` periods. -/
def laneAfter (u : LaneUnit) (n : Nat) : LaneUnit :=
  { u with
    sending := u.sending.map fun x => { x with elapsed := x.elapsed + n }
    stall := u.stall.map (· + n) }

/-- A record's retry timer after `n` periods (R155). -/
def noticeAfter (n : Nat) (r : Notice) : Notice :=
  { r with
    condition :=
      match r.condition with
      | .waiting t => .waiting (t + n)
      | c => c }

/-- `n` periods of the reference clock pass: the gate time counts and slews, and every running timer advances; held
retry timers stand still (R162). In ACQUIRING every period counts as idle fill received with alignment held, from the
entry on and right after a loss of alignment, since no event reports alignment gained: DESIGN CHOICE, unsafe,
assumption log 29. -/
def elapse (n : Nat) (s : State) : State :=
  { s with
    idleTimer := s.idleTimer.map (· + n)
    clock := clockAfter s.clock n
    laneA := laneAfter s.laneA n
    laneB := laneAfter s.laneB n
    stage := { s.stage with timer := s.stage.timer.map (· + n) }
    agent := { s.agent with work := if s.agent.state = .working then s.agent.work + n else s.agent.work }
    notices :=
      if noticesHeld s then s.notices
      else { s.notices with queue := s.notices.queue.map (noticeAfter n) } }

/-- Time passes until gate time `t` has come. -/
def elapseUntil (t : Time) (s : State) : State := elapse (periodsUntil s.clock (aheadBy s.clock.time t)) s

/-! ### TIME frames (R60 to R65) -/

/-- A 48-bit difference read as a signed number (R61). -/
def signed48 (v : Time) : Int := v.toInt

/-- The offset of a used TIME frame (R61). -/
def timeOffset (master : Time) (compensation : Nat) (arrival : Time) : Int :=
  signed48 (master + BitVec.ofNat 48 compensation - arrival)

/-- The clock steps by an offset (R62, R63): the pending correction is 0 and slewing stops. -/
def stepClock (offset : Int) (c : Clock) : Clock :=
  { c with
    time := c.time + BitVec.ofInt 48 offset
    pending := 0
    slew := 0 }

/-- The clock slews by an offset (R64). -/
def slewClock (offset : Int) (c : Clock) : Clock :=
  { c with
    pending := offset
    slew := 0 }

/-- Whether a used TIME frame steps the clock: always in FREE, else at or above the threshold (R62, R63). -/
def stepsClock (state : ClockState) (threshold : Nat) (offset : Int) : Bool :=
  decide (state = .free) || decide (threshold ≤ offset.natAbs)

/-- The clock after a used TIME frame: step or slew, LOCKED, holdover timer restarted, last reference recorded
(R62 to R65). -/
def clockUsing (threshold : Nat) (offset : Int) (arrival : Time) (c : Clock) : Clock :=
  { (if stepsClock c.state threshold offset then stepClock offset c else slewClock offset c) with
    state := .locked
    holdover := some 0
    lastReference := some arrival }

/-- The work of one used TIME frame: the clock, TIME-STEP for a step, TIME-RESTORED from HOLDOVER, and the watch on a
scheduled commit (R60 to R65, R73, R74). That TIME-STEP enters the queue before TIME-RESTORED is the model's: DESIGN
CHOICE, unsafe, assumption log 31. The stall timers are judged after the step and its notices together: DESIGN CHOICE,
unsafe, assumption log 37. -/
def useTimeFrame (master : Time) (tag : Tag) (arrival : Time) (s : State) : State :=
  let offset := timeOffset master s.params.pathCompensation arrival
  let t := { s with clock := clockUsing s.params.stepThreshold offset arrival s.clock }
  let u :=
    if stepsClock s.clock.state s.params.stepThreshold offset then raise .timeStep none tag (detailSigned offset) t
    else t
  let v := if s.clock.state = .holdover then raise .timeRestored none tag (detailSigned offset) u else u
  watchCommit v

/-! ### Holdover (R67) -/

/-- The holdover timer runs out: it stops, and a LOCKED clock enters HOLDOVER with TIME-LOST. -/
def holdoverExpired (s : State) : State :=
  if s.clock.state = .locked then
    raise .timeLost none s.params.referenceTag (BitVec.ofNat 32 s.params.holdoverTimeout)
      { s with
        clock :=
          { s.clock with
            state := .holdover
            holdover := none } }
  else { s with clock := { s.clock with holdover := none } }

/-- The remaining time of the holdover timer in whole ms, 0 when stopped (R67). -/
def holdoverRemaining (s : State) : Nat :=
  match s.clock.holdover with
  | none => 0
  | some t => (holdoverLimit s.params - t) / periodsPerMillisecond

/-! ### TIME-SET (R69, R70) -/

/-- The clock after TIME-SET. -/
def clockSet (value : Time) (c : Clock) : Clock :=
  { c with
    time := value
    pending := 0
    slew := 0
    state := if c.state = .free then .holdover else c.state
    holdover := if c.state = .free then some 0 else c.holdover }

/-- The change TIME-SET makes, read as a signed number (R69). -/
def timeChange (value now : Time) : Int := signed48 (value - now)

/-- TIME-SET: the clock is set, a frame in reception past its header event is not used (R60), TIME-STEP is raised for a
change that reaches the threshold, and a scheduled commit is watched (R73). The stall timers are judged after the change and
its notice together: DESIGN CHOICE, unsafe, assumption log 37. -/
def setTime (value : Time) (s : State) : State :=
  let change := timeChange value s.clock.time
  let t := ({ s with clock := clockSet value s.clock }).modifyContext fun c => { c with timeSet := true }
  let u :=
    if s.params.stepThreshold ≤ change.natAbs then raise .timeStep none noTag (detailSigned change) t else t
  watchCommit u

end Sys2Proof.Machine
end

