-- ==== Sys2Proof/Machine/Agent.lean ====
section
/-! DEFINITION. The Management Agent (chapter 8): what each request does, execution with the Manager Table, replies,
intake, and the reset that follows a RESTART's reply. -/

namespace Sys2Proof.Machine

open Sys2Proof

/-- What a request answers: result, data, and the state after its effects. -/
structure Answer where
  result : Result
  data : List Byte
  state : State

/-- A refusal: nothing in the gate changes (R177). -/
def refusal (r : Result) (s : State) : Answer := ⟨r, [], s⟩

/-! ### Reading requests -/

/-- The status block, 22 bytes, read at one instant (R146, section 11.3). -/
def statusBlock (s : State) : List Byte :=
  [s.gateNumber, linkByte s.link, clockStateByte s.clock.state, laneStateByte s.laneA.state,
      laneStateByte s.laneB.state] ++
    bytes16 (BitVec.ofNat 16 s.pool.freeCells.length) ++ bytes16 (BitVec.ofNat 16 s.freeDescs) ++
    [byteOf s.transitCount, byteOf s.stage.changes.length, s.stage.owner.getD 0, commitStateByte s.stage.commit] ++
    bytes48 (commitTime s.stage.commit) ++
    [byteOf s.notices.queue.length, trapStateByte s.trap.state, byteOf s.agent.requests.length]

/-- READ-STATUS (R146). -/
def doReadStatus (s : State) : Answer := ⟨.ok, statusBlock s, s⟩

/-- READ-ENTRY (R19, R40). -/
def doReadEntry (slot : Byte) (s : State) : Answer :=
  match slotOf slot with
  | none => refusal .badValue s
  | some k => ⟨.ok, entryRecord k (s.entry k), s⟩

/-- The ACTIVE, MUTED or RETIRING slot that holds a tag (R41). -/
def slotHolding (s : State) (tag : Tag) : Option Slot :=
  allSlots.find? fun k => decide ((s.entry k).state ≠ .vacant) && decide ((s.entry k).config.tag = tag)

/-- FIND-TAG (R41). -/
def doFindTag (tag : Tag) (s : State) : Answer :=
  if firstGateTag ≤ tag.toNat then refusal .badValue s
  else
    match slotHolding s tag with
    | none => refusal .notFound s
    | some k => ⟨.ok, [byteOf k.val, entryStateByte (s.entry k).state], s⟩

/-- READ-COUNTERS with scope SLOT (R39). -/
def doReadSlotCounters (slot : Byte) (clear : Bool) (s : State) : Answer :=
  match slotOf slot with
  | none => refusal .badValue s
  | some k =>
    ⟨.ok, slotCounterRecord k (s.entry k).counters,
      if clear then s.modifyEntry k fun e => { e with counters := .zero } else s⟩

/-- READ-COUNTERS with scope GLOBAL; the slot operand is not read (R149). -/
def doReadGlobalCounters (clear : Bool) (s : State) : Answer :=
  ⟨.ok, globalCounterRecord s.counters, if clear then { s with counters := .zero } else s⟩

/-- READ-COUNTERS: scope and clear option judged, then the scope's rule (R39, R149, R177). -/
def doReadCounters (scope slot clear : Byte) (s : State) : Answer :=
  match bitOf scope, bitOf clear with
  | some false, some c => doReadSlotCounters slot c s
  | some true, some c => doReadGlobalCounters c s
  | _, _ => refusal .badValue s

/-- READ-STAGED (R123). -/
def doReadStaged (index : Byte) (s : State) : Answer :=
  match s.stage.changes[index.toNat]? with
  | none => refusal .badValue s
  | some c => ⟨.ok, stagedRecord s.stage index c, s⟩

/-- READ-TIME, 20 bytes (R71, section 11.3). That bits 1 to 7 of the flags byte are 0 is DESIGN CHOICE, unsafe,
assumption log 36. -/
def timeRecord (s : State) : List Byte :=
  bytes48 s.clock.time ++ [clockStateByte s.clock.state] ++ bytes32 (BitVec.ofInt 32 s.clock.pending) ++
    bytes16 (BitVec.ofNat 16 (holdoverRemaining s)) ++ [bitAt 0 s.clock.lastReference.isSome] ++
    bytes48 (s.clock.lastReference.getD 0)

/-- READ-TIME (R71). -/
def doReadTime (s : State) : Answer := ⟨.ok, timeRecord s, s⟩

/-- READ-TRAP (R172). An answer whose filter tag is ANY uses a free value for the two tag bytes (assumption
log 13). -/
def doReadTrap (offset : BitVec 16) (s : State) : Answer :=
  match s.trap.state with
  | .idle => refusal .empty s
  | .armed => refusal .empty s
  | .filling => refusal .trapBusy s
  | .held =>
    match s.trap.record with
    | none => refusal .empty s
    | some r =>
      if offset.toNat < s.trap.buffer.length then
        ⟨.ok, trapData s.trap (Config.anyTagBytes s.freeCount) r offset.toNat,
          if s.trap.filterTag.isNone then { s with freeCount := s.freeCount + 1 } else s⟩
      else refusal .badValue s

/-! ### Parameters (R147, section 8.6) -/

/-- The current value of a parameter as its value field carries it; none for an identifier that names none. -/
def paramValue (id : Byte) (s : State) : Option (BitVec 32) :=
  let p := s.params
  if id = paramReplyLane then some ((laneByte p.replyLane).setWidth 32)
  else if id = paramNoticeLane then some ((laneByte p.noticeLane).setWidth 32)
  else if id = paramNoticeDestination then some (p.noticeDestination.setWidth 32)
  else if id = paramClassMask then some (p.classMask.setWidth 32)
  else if id = paramRetryInterval then some (BitVec.ofNat 32 p.retryInterval)
  else if id = paramRetryLimit then some (BitVec.ofNat 32 p.retryLimit)
  else if id = paramUnknownAction then some ((unknownActionByte p.unknownAction).setWidth 32)
  else if id = paramReferenceTag then some (p.referenceTag.setWidth 32)
  else if id = paramPathCompensation then some (BitVec.ofNat 32 p.pathCompensation)
  else if id = paramStepThreshold then some (BitVec.ofNat 32 p.stepThreshold)
  else if id = paramHoldoverTimeout then some (BitVec.ofNat 32 p.holdoverTimeout)
  else if id = paramStallLimit then some (BitVec.ofNat 32 p.stallLimit)
  else if id = paramStagingTimeout then some (BitVec.ofNat 32 p.stagingTimeout)
  else if id = paramGateNumber then some (s.gateNumber.setWidth 32)
  else none

/-- The range of each parameter's value (section 8.6). -/
def paramInRange (id : Byte) (v : Nat) : Bool :=
  if id = paramReplyLane then decide (v ≤ 1)
  else if id = paramNoticeLane then decide (v ≤ 1)
  else if id = paramNoticeDestination then decide (v ≤ 255)
  else if id = paramClassMask then decide (v ≤ 65535)
  else if id = paramRetryInterval then decide (10 ≤ v) && decide (v ≤ 10000)
  else if id = paramRetryLimit then decide (v ≤ 7)
  else if id = paramUnknownAction then decide (v ≤ 1)
  else if id = paramReferenceTag then decide (v ≤ 65535)
  else if id = paramPathCompensation then decide (v ≤ 65535)
  else if id = paramStepThreshold then decide (1 ≤ v) && decide (v ≤ 1000000)
  else if id = paramHoldoverTimeout then decide (10 ≤ v) && decide (v ≤ 10000)
  else if id = paramStallLimit then decide (100 ≤ v) && decide (v ≤ 1000000)
  else if id = paramStagingTimeout then decide (1 ≤ v) && decide (v ≤ 60)
  else false

/-- The lane a parameter value names: 0 A, 1 B. -/
def laneOfValue (v : Nat) : Lane := if v = 0 then .a else .b

/-- A new reply lane: where it is BLOCKED the queued replies are discarded at once (R99). -/
def setReplyLane (l : Lane) (s : State) : State :=
  let t := { s with params := { s.params with replyLane := l } }
  if t.blocked l then discardReplies t else t

/-- A new notice lane: a hold starts or ends by its state (R99, R162). -/
def setNoticeLane (l : Lane) (s : State) : State :=
  endHold s { s with params := { s.params with noticeLane := l } }

/-- A new notice destination: 0 empties the Notice Queue and clears the loss flag (R164). -/
def setNoticeDestination (d : Byte) (s : State) : State :=
  let t := { s with params := { s.params with noticeDestination := d } }
  if d = 0 then
    { t with
      notices :=
        { t.notices with
          queue := []
          loss := false } }
  else t

/-- A new retry interval: running retry timers are compared with it; held ones when they resume (R164). -/
def setRetryInterval (v : Nat) (s : State) : State :=
  let t := { s with params := { s.params with retryInterval := v } }
  if noticesHeld t then t else compareRetries t

/-- A pending correction reduced below a new step threshold, keeping its sign (R68). -/
def limitPending (threshold : Nat) (pending : Int) : Int :=
  if threshold ≤ pending.natAbs then
    if 0 ≤ pending then (threshold : Int) - 1 else 1 - (threshold : Int)
  else pending

/-- A new step threshold (R68). -/
def setStepThreshold (v : Nat) (s : State) : State :=
  { s with
    params := { s.params with stepThreshold := v }
    clock := { s.clock with pending := limitPending v s.clock.pending } }

/-- A new holdover timeout: a running timer that has reached it runs out (R68). -/
def setHoldoverTimeout (v : Nat) (s : State) : State :=
  let t := { s with params := { s.params with holdoverTimeout := v } }
  match t.clock.holdover with
  | some e => if holdoverLimit t.params ≤ e then holdoverExpired t else t
  | none => t

/-- A lane's stall timer compared with the limit in force: where it has reached it the lane becomes BLOCKED with cause
STALL (R106, R107). -/
def compareStall (l : Lane) (s : State) : State :=
  match (s.lane l).stall with
  | some e =>
    if (s.lane l).state = .paused ∧ stallLimit s.params ≤ e then enterBlocked l .stall s else s
  | none => s

/-- A new lane stall limit, for both lanes (R107). Where both timers have reached it lane A enters BLOCKED first: DESIGN
CHOICE, unsafe, assumption log 32. -/
def setStallLimit (v : Nat) (s : State) : State :=
  compareStall .b (compareStall .a { s with params := { s.params with stallLimit := v } })

/-- A new staging timeout: a running timer that has reached it expires (R119). -/
def setStagingTimeout (v : Nat) (s : State) : State :=
  let t := { s with params := { s.params with stagingTimeout := v } }
  match t.stage.timer with
  | some e => if stagingLimit t.params ≤ e then stagingExpired t else t
  | none => t

/-- The parameter takes its new value, with what that does at this moment. -/
def applyParam (id : Byte) (v : Nat) (s : State) : State :=
  if id = paramReplyLane then setReplyLane (laneOfValue v) s
  else if id = paramNoticeLane then setNoticeLane (laneOfValue v) s
  else if id = paramNoticeDestination then setNoticeDestination (byteOf v) s
  else if id = paramClassMask then { s with params := { s.params with classMask := BitVec.ofNat 16 v } }
  else if id = paramRetryInterval then setRetryInterval v s
  else if id = paramRetryLimit then { s with params := { s.params with retryLimit := v } }
  else if id = paramUnknownAction then
    { s with params := { s.params with unknownAction := if v = 0 then .transit else .discard } }
  else if id = paramReferenceTag then { s with params := { s.params with referenceTag := BitVec.ofNat 16 v } }
  else if id = paramPathCompensation then { s with params := { s.params with pathCompensation := v } }
  else if id = paramStepThreshold then setStepThreshold v s
  else if id = paramHoldoverTimeout then setHoldoverTimeout v s
  else if id = paramStallLimit then setStallLimit v s
  else if id = paramStagingTimeout then setStagingTimeout v s
  else s

/-- READ-PARAM (R147). -/
def doReadParam (id : Byte) (s : State) : Answer :=
  match paramValue id s with
  | none => refusal .badValue s
  | some v => ⟨.ok, id :: bytes32 v, s⟩

/-- SET-PARAM (R147): identifier, gate number, range; a value already held has no other effect. -/
def doSetParam (id : Byte) (value : BitVec 32) (s : State) : Answer :=
  match paramValue id s with
  | none => refusal .badValue s
  | some now =>
    if id = paramGateNumber then refusal .readOnly s
    else if paramInRange id value.toNat then
      ⟨.ok, id :: bytes32 value, if now = value then s else applyParam id value.toNat s⟩
    else refusal .badValue s

/-! ### Staging and committing (chapter 7) -/

/-- The state with a change staged: the first change makes its requester the owner and starts the staging timer
(R117, R118). -/
def stageChange (m : Byte) (c : Change) (s : State) : State :=
  { s with
    stage :=
      { s.stage with
        changes := stageInto s.stage.changes c
        owner := if s.stage.changes.isEmpty then some m else s.stage.owner
        timer := if s.stage.changes.isEmpty then some 0 else s.stage.timer } }

/-- A change that has passed its range checks: check 4 of R120, then the change is staged; the data is the list index
and the list length. -/
def stageAccepted (m : Byte) (c : Change) (s : State) : Answer :=
  if (changeFor s.stage.changes c.slot).isSome ∨ s.stage.changes.length < changeCapacity then
    let t := stageChange m c s
    ⟨.ok, [byteOf (changeIndex t.stage.changes c.slot), byteOf t.stage.changes.length], t⟩
  else refusal .listFull s

/-- STAGE-ENTRY (R120). -/
def doStageEntry (m : Byte) (e : EntryOperands) (s : State) : Answer :=
  if ownedElsewhere m s.stage then refusal .ownedElsewhere s
  else if stageFrozen s.stage then refusal .frozen s
  else
    match changeOf e with
    | none => refusal .badValue s
    | some c => stageAccepted m c s

/-- STAGE-RETIRE (R121). -/
def doStageRetire (m : Byte) (slot : Byte) (s : State) : Answer :=
  if ownedElsewhere m s.stage then refusal .ownedElsewhere s
  else if stageFrozen s.stage then refusal .frozen s
  else
    match slotOf slot with
    | none => refusal .badValue s
    | some k => stageAccepted m (.retire k) s

/-- The list without the change for a slot; an emptied list releases its owner and stops the timer (R115, R122). -/
def unstaged (k : Slot) (st : Stage) : Stage :=
  let rest := st.changes.filter fun c => decide (c.slot ≠ k)
  if rest.isEmpty then { st with changes := [], owner := none, timer := none } else { st with changes := rest }

/-- UNSTAGE (R122). -/
def doUnstage (m : Byte) (slot : Byte) (s : State) : Answer :=
  if ownedElsewhere m s.stage then refusal .ownedElsewhere s
  else if stageFrozen s.stage then refusal .frozen s
  else
    match slotOf slot with
    | none => refusal .badValue s
    | some k =>
      if (changeFor s.stage.changes k).isSome then
        let t := { s with stage := unstaged k s.stage }
        ⟨.ok, [byteOf t.stage.changes.length], t⟩
      else refusal .notFound s

/-- DISCARD-STAGED (R122). -/
def doDiscardStaged (m : Byte) (s : State) : Answer :=
  if ownedElsewhere m s.stage then refusal .ownedElsewhere s
  else if stageFrozen s.stage then refusal .frozen s
  else if s.stage.changes.isEmpty then refusal .empty s
  else ⟨.ok, [byteOf s.stage.changes.length], { s with stage := emptyStage }⟩

/-- COMMIT (R129). -/
def doCommit (m : Byte) (s : State) : Answer :=
  if ownedElsewhere m s.stage then refusal .ownedElsewhere s
  else if s.stage.changes.isEmpty then refusal .empty s
  else if stageFrozen s.stage then refusal .frozen s
  else
    match validate s with
    | some f => ⟨f.reason, [byteOf f.index, byteOf f.change.slot.val], s⟩
    | none => ⟨.ok, [byteOf s.stage.changes.length], applyChanges s⟩

/-- The farthest a scheduled commit may lie ahead (R130). -/
def commitHorizon : Nat := 2 ^ 40

/-- COMMIT-AT (R130). -/
def doCommitAt (m : Byte) (t : Time) (s : State) : Answer :=
  if ownedElsewhere m s.stage then refusal .ownedElsewhere s
  else if s.stage.changes.isEmpty then refusal .empty s
  else if stageFrozen s.stage then refusal .frozen s
  else if s.clock.state = .free then refusal .noTime s
  else if hasCome s.clock.time t then refusal .pastTime s
  else if commitHorizon < (t - s.clock.time).toNat then refusal .badValue s
  else
    ⟨.ok, [],
      { s with
        stage :=
          { s.stage with
            commit := .scheduled t
            timer := none } }⟩

/-- CANCEL-COMMIT (R132). -/
def doCancelCommit (m : Byte) (s : State) : Answer :=
  if ownedElsewhere m s.stage then refusal .ownedElsewhere s
  else if stageFrozen s.stage then
    ⟨.ok, [],
      { s with
        stage :=
          { s.stage with
            commit := .idle
            timer := some 0 } }⟩
  else refusal .notScheduled s

/-! ### Lanes, time, datapath, notices -/

/-- TIME-SET (R69). -/
def doTimeSet (value : Time) (s : State) : Answer := ⟨.ok, [], setTime value s⟩

/-- A lane blocked by request (R108). -/
def blockLane (l : Lane) (s : State) : State :=
  match (s.lane l).state with
  | .idle => enterBlocked l .request s
  | .paused => enterBlocked l .request s
  | .sending => s.setLane l { s.lane l with state := .blockPending }
  | .blockPending => s
  | .blocked => s

/-- LANE-BLOCK (R108). -/
def doLaneBlock (lane : Byte) (s : State) : Answer :=
  match laneOf lane.toNat with
  | none => refusal .badValue s
  | some l => ⟨.ok, [], blockLane l s⟩

/-- A BLOCKED lane reopened: IDLE with LANE-OPEN, and a hold of the notices may end (R111, R162). -/
def reopenLane (l : Lane) (s : State) : State :=
  endHold s
    (raise .laneOpen none noTag (detail8 (laneByte l) 0 0 0) (s.setLane l { s.lane l with state := .idle }))

/-- LANE-RESUME (R111). -/
def doLaneResume (lane : Byte) (s : State) : Answer :=
  match laneOf lane.toNat with
  | none => refusal .badValue s
  | some l =>
    if s.blocked l then
      if s.waitHigh l then refusal .paused s else ⟨.ok, [], reopenLane l s⟩
    else refusal .state s

/-- FLUSH (R148). -/
def doFlush (s : State) : Answer := ⟨.ok, [], flushDatapath s⟩

/-- RESTART (R151): its effect is the Agent's, after its reply. -/
def doRestart (s : State) : Answer := ⟨.ok, [], s⟩

/-- ARM-TRAP (R168). -/
def doArmTrap (o : TrapOperands) (s : State) : Answer :=
  match trapSettingOf o with
  | none => refusal .badValue s
  | some x => ⟨.ok, [], armTrap x s⟩

/-- DISARM-TRAP (R173). -/
def doDisarmTrap (s : State) : Answer := ⟨.ok, [], disarmTrap s⟩

/-- A record that an acknowledgement of N covers (R163). -/
def ackCovers (n : BitVec 16) (r : Notice) : Bool := decide ((n - r.sequence).toNat < 32768)

/-- ACK-NOTICES (R163). -/
def doAckNotices (m : Byte) (n : BitVec 16) (s : State) : Answer :=
  if m = s.params.noticeDestination then
    let kept := s.notices.queue.filter fun r => !ackCovers n r
    ⟨.ok, [byteOf (s.notices.queue.length - kept.length), byteOf kept.length],
      { s with notices := { s.notices with queue := kept } }⟩
  else refusal .ownedElsewhere s

/-! ### Execution (R137 to R142) -/

/-- Step 6 of R138: the request is executed by its own rule, `m` being its manager. -/
def perform (m : Byte) (r : Request) (s : State) : Answer :=
  match r with
  | .readStatus => doReadStatus s
  | .readEntry slot => doReadEntry slot s
  | .findTag tag => doFindTag tag s
  | .readCounters scope slot clear => doReadCounters scope slot clear s
  | .readStaged index => doReadStaged index s
  | .readParam id => doReadParam id s
  | .readTime => doReadTime s
  | .readTrap offset => doReadTrap offset s
  | .stageEntry e => doStageEntry m e s
  | .stageRetire slot => doStageRetire m slot s
  | .unstage slot => doUnstage m slot s
  | .discardStaged => doDiscardStaged m s
  | .commit => doCommit m s
  | .commitAt t => doCommitAt m t s
  | .cancelCommit => doCancelCommit m s
  | .setParam id value => doSetParam id value s
  | .timeSet value => doTimeSet value s
  | .laneBlock lane => doLaneBlock lane s
  | .laneResume lane => doLaneResume lane s
  | .flush => doFlush s
  | .restart => doRestart s
  | .armTrap ops => doArmTrap ops s
  | .disarmTrap => doDisarmTrap s
  | .ackNotices n => doAckNotices m n s

/-- The requests of a state-changing kind (R142, section 8.5): READ-COUNTERS with the clear option is one. A clear byte of
2 to 255 names no value, and does not count as the clear option: DESIGN CHOICE, unsafe, assumption log 33. -/
def stateChanging : Request → Bool
  | .readStatus => false
  | .readEntry _ => false
  | .findTag _ => false
  | .readCounters _ _ clear => decide (clear = 1)
  | .readStaged _ => false
  | .readParam _ => false
  | .readTime => false
  | .readTrap _ => false
  | .stageEntry _ => true
  | .stageRetire _ => true
  | .unstage _ => true
  | .discardStaged => true
  | .commit => true
  | .commitAt _ => true
  | .cancelCommit => true
  | .setParam _ _ => true
  | .timeSet _ => true
  | .laneBlock _ => true
  | .laneResume _ => true
  | .flush => true
  | .restart => true
  | .armTrap _ => true
  | .disarmTrap => true
  | .ackNotices _ => true

/-- The most entries of the Manager Table (R140). -/
def managerCapacity : Nat := 4

/-- The manager's entry in the table (R140). -/
def managerEntry (ms : List ManagerEntry) (m : Byte) : Option ManagerEntry :=
  ms.find? fun e => decide (e.manager = m)

/-- The other managers' entries. -/
def otherManagers (ms : List ManagerEntry) (m : Byte) : List ManagerEntry :=
  ms.filter fun e => decide (e.manager ≠ m)

/-- Step 2 of R138: the manager's entry, found or created, becomes the most recently used; a full table loses its least
recently used entry to a new one (R140). -/
def touchManager (ms : List ManagerEntry) (m : Byte) : List ManagerEntry :=
  match managerEntry ms m with
  | some e => otherManagers ms m ++ [e]
  | none => (if ms.length < managerCapacity then ms else ms.tail) ++ [⟨m, none⟩]

/-- The manager's entry takes the request judged (R142). -/
def rememberRequest (m : Byte) (l : LastRequest) (s : State) : State :=
  { s with
    agent :=
      { s.agent with
        managers := s.agent.managers.map fun e => if e.manager = m then { e with last := some l } else e } }

/-- A repetition of the manager's last state-changing request (R141): its stored result. -/
def repetition (ms : List ManagerEntry) (m : Byte) (txn : BitVec 16) : Option Result :=
  match (managerEntry ms m).bind (·.last) with
  | some l => if l.stateChanging && decide (l.txn = txn) then some l.result else none
  | none => none

/-- The reply to a request record (R139). -/
def replyTo (q : RequestRecord) (result : Result) (data : List Byte) (duplicate restart : Bool) (s : State) : Reply :=
  { manager := q.manager
    txn := q.txn
    code := q.code
    result := result
    duplicate := duplicate
    allGates := q.allGates
    data := data
    created := s.clock.time
    restart := restart }

/-- A reply enters the queue at its creation, or is discarded and counted where the reply lane is BLOCKED (R110,
R143). The stall timers are judged first: one that the request's effects have stopped stands at zero when the reply,
created after them, becomes a candidate (R106, R139). -/
def createReply (r : Reply) (s : State) : State :=
  let t := settle s
  if t.blocked t.params.replyLane then t.count fun c => { c with repliesLost := c.repliesLost + 1 }
  else { t with agent := { t.agent with replies := t.agent.replies ++ [r] } }

/-- After an execution the Agent is WORKING, and RESTARTING after a RESTART (R137, R151). -/
def enterWork (state : AgentState) (s : State) : State :=
  { s with
    agent :=
      { s.agent with
        state := state
        work := 0 } }

/-- Steps 4 to 6 of R138 for a request that is no repetition. -/
def executeNew (q : RequestRecord) (s : State) : State :=
  match decodeRequest q.code q.operands with
  | none =>
    enterWork .working
      (createReply (replyTo q .badRequest [] false false s)
        (rememberRequest q.manager ⟨q.txn, .badRequest, false⟩ s))
  | some r =>
    let a := perform q.manager r s
    let t := rememberRequest q.manager ⟨q.txn, a.result, stateChanging r⟩ a.state
    enterWork (if r = .restart then .restarting else .working)
      (createReply (replyTo q a.result a.data false (decide (r = .restart)) t) t)

/-- The execution of one request, taken from the queue (R138): the staging timer's restart first, then the steps. -/
def execute (q : RequestRecord) (s : State) : State :=
  let s := restartStaging q.manager s
  if q.manager = 0 then
    enterWork .working (createReply (replyTo q .badRequest [] false false s) s)
  else
    let t := { s with agent := { s.agent with managers := touchManager s.agent.managers q.manager } }
    match repetition t.agent.managers q.manager q.txn with
    | some result => enterWork .working (createReply (replyTo q result [] true false t) t)
    | none => executeNew q t

/-! ### The end of a RESTART's reply (R152) -/

/-- A lane is sending the reply of a RESTART. -/
def sendingRestart (u : LaneUnit) : Bool :=
  match u.sending with
  | some ⟨.reply r, _, _⟩ => r.restart
  | _ => false

/-- The RESTART's reply has ended: the Agent is RESTARTING, and the reply neither waits nor is being sent. -/
def restartEnded (s : State) : Bool :=
  decide (s.agent.state = .restarting) && !(s.agent.replies.any (·.restart)) && !sendingRestart s.laneA &&
    !sendingRestart s.laneB

/-- The hard reset at the end of a RESTART's reply (R152). -/
def restartCheck (s : State) : State := if restartEnded s then hardReset s else s

/-! ### Readiness and intake (R134 to R137) -/

/-- The most requests that wait (R135). -/
def requestCapacity : Nat := 4

/-- The most replies that wait (R143). -/
def replyCapacity : Nat := 8

/-- A READY Agent executes the head of the request queue as soon as one waits and the reply queue has room (R137). -/
def agentRun (s : State) : State :=
  match s.agent.requests with
  | [] => s
  | q :: rest =>
    if s.agent.state = .ready ∧ s.agent.replies.length < replyCapacity then
      restartCheck (execute q { s with agent := { s.agent with requests := rest } })
    else s

/-- A request record offered to the request queue: taken, answered BUSY, or dropped (R135). -/
def intake (q : RequestRecord) (s : State) : State :=
  if s.agent.requests.length < requestCapacity then
    { s with agent := { s.agent with requests := s.agent.requests ++ [q] } }
  else if s.agent.replies.length < replyCapacity then createReply (replyTo q .busy [] false false s) s
  else s.count fun c => { c with requestsDropped := c.requestsDropped + 1 }

/-- The payload of a GOOD request frame (R134): fewer than 4 bytes are dropped and counted, more make a record. -/
def intakePayload (allGates : Bool) (payload : List Byte) (s : State) : State :=
  match payload with
  | m :: t1 :: t0 :: code :: operands => agentRun (intake ⟨m, join16 t1 t0, code, operands, allGates⟩ s)
  | _ => s.count fun c => { c with requestsDropped := c.requestsDropped + 1 }

end Sys2Proof.Machine
end

