-- ==== Sys2Proof/Machine/Trunk.lean ====
section
/-! DEFINITION. The Trunk Receiver (chapter 1): the link, the header event with the dispatch of frames, the end event
with its hand-offs, and the lookup of the Stream Table. -/

namespace Sys2Proof.Machine

open Sys2Proof

/-! ### The header (R9, R10, R13) -/

/-- The kinds of frames (section 11.1). -/
def kindData : Byte := 1
def kindTime : Byte := 2
def kindRequest : Byte := 3
def kindReply : Byte := 4
def kindNotice : Byte := 5

/-- The checks of R10. -/
def malformedHeader (h : Header) : Bool :=
  decide (h.kind.toNat < 1) || decide (5 < h.kind.toNat) || decide (1024 < h.payloadLength.toNat) ||
    decide (4 < stampCount h.flags) || (decide (h.kind = kindData) && decide (firstGateTag ≤ h.tag.toNat))

/-- The tag is the time-reference tag, that parameter names one, and the payload can carry a master time (R13, R15). -/
def isReference (p : Params) (h : Header) : Bool :=
  decide (h.tag = p.referenceTag) && decide (p.referenceTag ≠ noTag) && decide (7 ≤ h.payloadLength.toNat)

/-- The gate is numbered and the tag is its gate address (R1, R2). -/
def isGateAddress (gateNumber : Byte) (tag : Tag) : Bool :=
  decide (gateNumber ≠ 255) && decide (tag = sourceTag gateNumber)

/-- The dispatch class of a header (R10, R13). -/
def dispatch (s : State) (h : Header) : DispatchClass :=
  if malformedHeader h then .malformed
  else if h.kind = kindData then .streamCandidate
  else if h.kind = kindTime then if isReference s.params h then .timeReference else .transit
  else if h.kind = kindRequest then
    if isGateAddress s.gateNumber h.tag then .localRequest
    else if h.tag = allGatesTag then .allGatesRequest
    else .transit
  else if h.tag = sourceTag s.gateNumber then .ownReturned
  else .transit

/-- The reception context as opened (R9): an origin time whose present bit is clear is absent. -/
def openContext (s : State) (h : Header) : Context :=
  { arrival := s.clock.time
    kind := h.kind
    flags := h.flags
    tag := h.tag
    sequence := h.sequence
    payloadLength := h.payloadLength
    origin := if originPresent h.flags then some h.originTime else none
    declared := declaredLength h.payloadLength h.flags
    cls := dispatch s h
    classified := none
    verdict := .unjudged
    admission := .noAction
    stampFlags := noStampFlags
    reservation := none
    flushed := false
    timeSet := false }

/-! ### Lookup and the header-event decisions (R14, R30 to R33) -/

/-- The ACTIVE or MUTED entry that carries a tag (R30). -/
def lookup (s : State) (tag : Tag) : Option Slot :=
  allSlots.find? fun k =>
    (decide ((s.entry k).state = .active) || decide ((s.entry k).state = .muted)) &&
      decide ((s.entry k).config.tag = tag)

/-- A frame classified to a slot: the copy of the entry is fixed, the last arrival time set, the frame judged, then
admitted (R14, R31). -/
def headerClassified (k : Slot) (data : List Byte) (w : HeaderWork) : HeaderWork :=
  let s := w.state
  let c := w.context
  let e := s.entry k
  let cl : Classified := ⟨k, e.state, e.config⟩
  let j := judge e.config.continuity e.expected e.behindRun c.sequence
  let t :=
    noticeVerdict k c.tag c.sequence e.expected j.verdict
      (s.modifyEntry k fun e => judgedEntry j { e with lastArrival := some c.arrival })
  admitStream cl data
    ⟨t, { c with classified := some cl, verdict := j.verdict, stampFlags := verdictFlags j.verdict }⟩

/-- An unknown-tag frame: counted, reported, and handled by the unknown-tag action (R33). -/
def headerUnknown (data : List Byte) (w : HeaderWork) : HeaderWork :=
  let action := w.state.params.unknownAction
  let t :=
    raise .unknownTag none w.context.tag (w.context.sequence ++ unknownActionByte action ++ (0 : Byte))
      (w.state.count fun g => { g with unknownTag := g.unknownTag + 1 })
  match action with
  | .transit => admitTransit data ⟨t, w.context⟩
  | .discard => ⟨t, w.context⟩

/-- A STREAM-CANDIDATE frame: looked up by its tag (R14). -/
def headerStream (data : List Byte) (w : HeaderWork) : HeaderWork :=
  match lookup w.state w.context.tag with
  | some k => headerClassified k data w
  | none => headerUnknown data w

/-- What the blocks of a dispatch class do at the header event (R13 to R17). -/
def headerDispatch (data : List Byte) (w : HeaderWork) : HeaderWork :=
  match w.context.cls with
  | .malformed => ⟨w.state.count fun g => { g with malformed := g.malformed + 1 }, w.context⟩
  | .streamCandidate => headerStream data w
  | .transit => admitTransit data w
  | .timeReference => admitTransit data w
  | .allGatesRequest => admitTransit data w
  | .localRequest => w
  | .ownReturned => ⟨w.state.count fun g => { g with ownReturned := g.ownReturned + 1 }, w.context⟩

/-- The header event (R9): the context is opened, the blocks act, and the frame is offered to the trap last (R17). -/
def headerEvent (bytes : List Byte) (s : State) : State :=
  match decodeHeader bytes with
  | none => s
  | some h =>
    let w := headerDispatch bytes ⟨s, openContext s h⟩
    offerTrap w.context bytes { w.state with reception := some ⟨bytes, some w.context⟩ }

/-- The byte of R9's header event: the 14th. -/
def headerBytes : Nat := 14

/-- A data byte of a reception: counted, stored, copied; the 14th is the header event (R7, R9, R86, R170). -/
def receiveByte (b : Byte) (r : Reception) (s : State) : State :=
  let bytes := r.bytes ++ [b]
  let t := { s with reception := some ⟨bytes, r.context⟩ }
  match r.context with
  | some c => copyByte b (storeByte c bytes.length b t)
  | none => if bytes.length = headerBytes then headerEvent bytes t else t

/-! ### The end event (R11, R12, section 1.7) -/

/-- The outcome of a reception (R8, R11): one ended early is never judged by its check word. -/
def endOutcome (c : Context) (bytes : List Byte) (early : Bool) : EndOutcome :=
  if bytes.length < c.declared then .truncated
  else if c.declared < bytes.length then .overlong
  else if early then .truncated
  else if checkWordCorrect bytes then .good
  else .badCheck

/-- The fate of a classified frame: the first line of R37 that applies. -/
inductive Fate where
  | flushed
  | muted
  | behind
  | late
  | tooEarly
  | quota
  | pool
  | errored
  | passed
  | admitted
deriving DecidableEq, Repr

/-- The line of R37 by end outcome and error policy, for a frame Admission kept. -/
def keptFate (policy : ErrorPolicy) (outcome : EndOutcome) : Fate :=
  match outcome, policy with
  | .good, _ => .admitted
  | .badCheck, .discard => .errored
  | .badCheck, .passMarked => .passed
  | .truncated, _ => .errored
  | .overlong, _ => .errored

/-- The line of R37 for a classified frame. -/
def fateOf (cl : Classified) (c : Context) (outcome : EndOutcome) : Fate :=
  if c.flushed then .flushed
  else if cl.state = .muted then .muted
  else
    match c.admission with
    | .behind => .behind
    | .late => .late
    | .tooEarly => .tooEarly
    | .quota => .quota
    | .pool => .pool
    | _ => keptFate cl.config.errorPolicy outcome

/-- One frame counted: received and exactly one fate counter, errored-passed beside admitted on line 10 (R37). -/
def countFate (f : Fate) (c : SlotCounters) : SlotCounters :=
  let c := { c with received := c.received + 1 }
  match f with
  | .flushed => { c with discardedFlushed := c.discardedFlushed + 1 }
  | .muted => { c with discardedMuted := c.discardedMuted + 1 }
  | .behind => { c with discardedBehind := c.discardedBehind + 1 }
  | .late => { c with discardedLate := c.discardedLate + 1 }
  | .tooEarly => { c with discardedTooEarly := c.discardedTooEarly + 1 }
  | .quota => { c with discardedQuota := c.discardedQuota + 1 }
  | .pool => { c with discardedPool := c.discardedPool + 1 }
  | .errored => { c with discardedErrored := c.discardedErrored + 1 }
  | .passed => { c with admitted := c.admitted + 1, erroredPassed := c.erroredPassed + 1 }
  | .admitted => { c with admitted := c.admitted + 1 }

/-- Whether an outcome is TRUNCATED or OVERLONG. -/
def cutShort (o : EndOutcome) : Bool :=
  match o with
  | .truncated => true
  | .overlong => true
  | .good => false
  | .badCheck => false

/-- The classes whose cut-short ends are counted in truncated, besides STREAM-CANDIDATE with an unknown tag (R18). -/
def countsTruncated (cls : DispatchClass) : Bool :=
  match cls with
  | .malformed => false
  | .ownReturned => false
  | _ => true

/-- The counting of the end event: a classified frame in its slot (R37), any other in truncated where R18 says so. -/
def countEnd (c : Context) (outcome : EndOutcome) (s : State) : State :=
  match c.classified with
  | some cl => s.modifyEntry cl.slot fun e => { e with counters := countFate (fateOf cl c outcome) e.counters }
  | none =>
    if cutShort outcome && countsTruncated c.cls then
      s.count fun g => { g with truncated := g.truncated + 1 }
    else s

/-- The completion or abandonment of the reservation, if the frame has one. -/
def settleReservation (c : Context) (outcome : EndOutcome) (s : State) : State :=
  match c.reservation with
  | some d => endReservation c outcome d s
  | none => s

/-- The payload of a received frame (section 11.1). -/
def framePayload (c : Context) (bytes : List Byte) : List Byte := (bytes.drop 14).take c.payloadLength.toNat

/-- The master time: the first six payload bytes (R60). -/
def masterTime (payload : List Byte) : Option Time :=
  match payload with
  | b5 :: b4 :: b3 :: b2 :: b1 :: b0 :: _ => some (join48 b5 b4 b3 b2 b1 b0)
  | _ => none

/-- The Gate Clock uses a TIME-REFERENCE frame that ends GOOD with no TIME-SET executed meanwhile (R60). -/
def settleClock (c : Context) (outcome : EndOutcome) (bytes : List Byte) (s : State) : State :=
  if c.cls = .timeReference ∧ outcome = .good ∧ c.timeSet = false then
    match masterTime (framePayload c bytes) with
    | some m => useTimeFrame m c.tag c.arrival s
    | none => s
  else s

/-- The reception is closed; the slot it engaged is engaged no more and may become VACANT (R28). -/
def closeReception (c : Context) (s : State) : State :=
  let t := { s with reception := none }
  match c.classified with
  | some cl => retireCheck cl.slot t
  | none => t

/-- The hand-off of a GOOD request frame to the Agent, last of all (R16, R134). -/
def settleRequest (c : Context) (outcome : EndOutcome) (bytes : List Byte) (s : State) : State :=
  match c.cls, outcome with
  | .localRequest, .good => intakePayload false (framePayload c bytes) s
  | .allGatesRequest, .good => intakePayload true (framePayload c bytes) s
  | _, _ => s

/-- The end event of a frame with a header event: counters, reservation, clock, trap, close, Agent (section 1.7,
assumption log 10). -/
def endFrame (c : Context) (bytes : List Byte) (early : Bool) (s : State) : State :=
  let outcome := endOutcome c bytes early
  settleRequest c outcome bytes
    (closeReception c
      (endCapture c outcome bytes.length
        (settleClock c outcome bytes (settleReservation c outcome (countEnd c outcome s)))))

/-- The end event of the reception in progress (R11, R12); none is in progress after it. -/
def endEvent (early : Bool) (s : State) : State :=
  match s.reception with
  | none => s
  | some r =>
    match r.context with
    | some c => endFrame c r.bytes early s
    | none => ({ s with reception := none }).count fun g => { g with truncated := g.truncated + 1 }

/-! ### The link (R4 to R8) -/

/-- In ACQUIRING, a code group other than idle fill, or a loss of alignment, restarts the idle timer (R4). After a loss of
alignment the timer runs on from zero at once: DESIGN CHOICE, unsafe, assumption log 29. -/
def restartIdle (s : State) : State := { s with idleTimer := some 0 }

/-- The cause field of LINK-DOWN (section 11.4). -/
inductive LinkCause where
  | signal
  | alignment
deriving DecidableEq, Repr

/-- The code of a cause. -/
def linkCauseByte : LinkCause → Byte
  | .signal => 0
  | .alignment => 1

/-- The link leaves ACQUIRING or UP for DOWN: a reception ends TRUNCATED or OVERLONG, a move from UP is counted, and
LINK-DOWN is raised with the cause and the state left (R6), after the notices of the end event (DEDUCED, unsafe,
assumption log 11). -/
def linkDown (cause : LinkCause) (s : State) : State :=
  let left := s.link
  let t := { endEvent true s with link := .down, idleTimer := none }
  let u := if left = .up then t.count fun g => { g with linkLosses := g.linkLosses + 1 } else t
  raise .linkDown none noTag (detail8 (linkCauseByte cause) (linkByte left) 0 0) u

end Sys2Proof.Machine
end

