-- ==== Sys2Proof/Machine/PinEvents.lean ====
section
/-! DEFINITION. The commands of the pins: power, RESET_N and the WAIT lines (R1, R3, R105); and what every command has
in common. -/

namespace Sys2Proof.Machine

open Sys2Proof

/-- The answer of this machine's commands. -/
abbrev Answered := Host.Outcome State Fault Refusal

/-- A command out of reset: its work, then both stall timers judged anew (R100, R106). While RESET_N is low the gate
watches nothing (R3), and the command has no effect. Assumption log 7. -/
def act (work : State → State) (s : State) : Answered :=
  if s.pins.resetN then .next (settle (work s)) else .next s

/-! ### Power and RESET_N (R1, R3) -/

/-- POWER_ON: the straps stand, RESET_N is seen high, and the gate takes a hard reset (R1). -/
def execPowerOn (straps : Byte) (s : State) : Answered :=
  .next
    (hardReset
      { s with
        pins :=
          { s.pins with
            straps := straps
            resetN := true } })

/-- A lane in hard reset: its send abandoned, idle fill on the wire (R3, section 6.3). -/
def laneInReset (u : LaneUnit) : LaneUnit :=
  { u with
    state := .idle
    sending := none
    stall := none }

/-- The gate while RESET_N is low: no reception, link DOWN, both lanes idle, gate time 0 (R3, R57). Every other
register keeps its value until the release, when all are reset. Assumption log 7. -/
def enterReset (s : State) : State :=
  { s with
    pins := { s.pins with resetN := false }
    link := .down
    idleTimer := none
    reception := none
    laneA := laneInReset s.laneA
    laneB := laneInReset s.laneB
    clock := { s.clock with time := 0 } }

/-- RESET_N_ASSERTED (R3). -/
def execResetNAsserted (s : State) : Answered := .next (enterReset s)

/-- RESET_N_RELEASED: the straps are sampled and every block takes its hard-reset values (R1, R3). A level that is
already high does not return high, and nothing happens. -/
def execResetNReleased (straps : Byte) (s : State) : Answered :=
  if s.pins.resetN then .next s
  else
    .next
      (hardReset
        { s with
          pins :=
            { s.pins with
              straps := straps
              resetN := true } })

/-! ### WAIT (R105) -/

/-- WAIT_ASSERTED: the line's level, and the lane's part of it out of reset (R105). -/
def execWaitAsserted (l : Lane) (s : State) : Answered := act (waitAsserted l) (setWait l true s)

/-- WAIT_RELEASED: the line's level, and the lane's part of it out of reset (R105). -/
def execWaitReleased (l : Lane) (s : State) : Answered := act (waitReleased l) (setWait l false s)

end Sys2Proof.Machine
end

