-- ==== Sys2Proof/Machine/ReadRequests.lean ====
section
/-! DEFINITION. The request rows of the Management Agent: how a request row is taken, the malformed request, and the reading
requests (sections 8.2 to 8.5). -/

namespace Sys2Proof.Machine

open Sys2Proof

/-- A request handed to the Agent: offered to the request queue, and executed at once where the Agent is READY with room
for the reply (R134 to R137). Assumption log 6. -/
def takeRequest (m : Sender) (code : Byte) (operands : List Byte) (s : State) : State :=
  agentRun (intake ⟨m.manager, m.txn, code, operands, m.allGates⟩ s)

/-- The command of one request row: the request with its code and operand bytes (section 11.2). -/
def requestRow (m : Sender) (r : Request) (s : State) : Answered := act (takeRequest m r.code r.operands) s

/-- BAD_REQUEST: a request of any manager id, code and operand bytes (R138). -/
def execBadRequest (m : Sender) (code : Byte) (operands : List Byte) (s : State) : Answered :=
  act (takeRequest m code operands) s

/-- READ_STATUS (R146). -/
def execReadStatus (m : Sender) (s : State) : Answered :=
  requestRow m .readStatus s

/-- READ_ENTRY (R40). -/
def execReadEntry (m : Sender) (slot : Byte) (s : State) : Answered :=
  requestRow m (.readEntry slot) s

/-- FIND_TAG (R41). -/
def execFindTag (m : Sender) (tag : Tag) (s : State) : Answered :=
  requestRow m (.findTag tag) s

/-- READ_COUNTERS_SLOT: READ-COUNTERS with scope 0, SLOT (R39). -/
def execReadCountersSlot (m : Sender) (slot clear : Byte) (s : State) : Answered :=
  requestRow m (.readCounters 0 slot clear) s

/-- READ_COUNTERS_GLOBAL: READ-COUNTERS with scope 1, GLOBAL (R149). -/
def execReadCountersGlobal (m : Sender) (slot clear : Byte) (s : State) : Answered :=
  requestRow m (.readCounters 1 slot clear) s

/-- READ_STAGED (R123). -/
def execReadStaged (m : Sender) (index : Byte) (s : State) : Answered :=
  requestRow m (.readStaged index) s

/-- READ_PARAM (R147). -/
def execReadParam (m : Sender) (id : Byte) (s : State) : Answered :=
  requestRow m (.readParam id) s

/-- READ_TIME (R71). -/
def execReadTime (m : Sender) (s : State) : Answered :=
  requestRow m .readTime s

/-- READ_TRAP (R172). -/
def execReadTrap (m : Sender) (offset : BitVec 16) (s : State) : Answered :=
  requestRow m (.readTrap offset) s

end Sys2Proof.Machine
end

