-- ==== Sys2Proof/Machine/ChangeRequests.lean ====
section
/-! DEFINITION. The request rows of staging and committing (chapter 7). -/

namespace Sys2Proof.Machine

open Sys2Proof

/-- STAGE_ENTRY (R120). -/
def execStageEntry (m : Sender) (e : EntryOperands) (s : State) : Answered :=
  requestRow m (.stageEntry e) s

/-- STAGE_RETIRE (R121). -/
def execStageRetire (m : Sender) (slot : Byte) (s : State) : Answered :=
  requestRow m (.stageRetire slot) s

/-- UNSTAGE (R122). -/
def execUnstage (m : Sender) (slot : Byte) (s : State) : Answered :=
  requestRow m (.unstage slot) s

/-- DISCARD_STAGED (R122). -/
def execDiscardStaged (m : Sender) (s : State) : Answered :=
  requestRow m .discardStaged s

/-- COMMIT (R129). -/
def execCommit (m : Sender) (s : State) : Answered :=
  requestRow m .commit s

/-- COMMIT_AT (R130). -/
def execCommitAt (m : Sender) (t : Time) (s : State) : Answered :=
  requestRow m (.commitAt t) s

/-- CANCEL_COMMIT (R132). -/
def execCancelCommit (m : Sender) (s : State) : Answered :=
  requestRow m .cancelCommit s

end Sys2Proof.Machine
end

