-- ==== Sys2Proof/Machine/ControlRequests.lean ====
section
/-! DEFINITION. The request rows of time, lanes, datapath, restart, trap and notices (sections 4.7, 6.5, 8.7, 9.5, 10.2). -/

namespace Sys2Proof.Machine

open Sys2Proof

/-- TIME_SET (R69). -/
def execTimeSet (m : Sender) (value : Time) (s : State) : Answered :=
  requestRow m (.timeSet value) s

/-- LANE_BLOCK (R108). -/
def execLaneBlock (m : Sender) (lane : Byte) (s : State) : Answered :=
  requestRow m (.laneBlock lane) s

/-- LANE_RESUME (R111). -/
def execLaneResume (m : Sender) (lane : Byte) (s : State) : Answered :=
  requestRow m (.laneResume lane) s

/-- FLUSH (R148). -/
def execFlush (m : Sender) (s : State) : Answered :=
  requestRow m .flush s

/-- RESTART (R151). -/
def execRestart (m : Sender) (s : State) : Answered :=
  requestRow m .restart s

/-- ARM_TRAP (R168). -/
def execArmTrap (m : Sender) (ops : TrapOperands) (s : State) : Answered :=
  requestRow m (.armTrap ops) s

/-- DISARM_TRAP (R173). -/
def execDisarmTrap (m : Sender) (s : State) : Answered :=
  requestRow m .disarmTrap s

/-- ACK_NOTICES (R163). -/
def execAckNotices (m : Sender) (n : BitVec 16) (s : State) : Answered :=
  requestRow m (.ackNotices n) s

end Sys2Proof.Machine
end

