-- ==== Sys2Proof/Machine/ParamRequests.lean ====
section
/-! DEFINITION. The request rows of the parameters (R147, section 8.6). -/

namespace Sys2Proof.Machine

open Sys2Proof

/-- SET_PARAM (R147). -/
def execSetParam (m : Sender) (id : Byte) (value : BitVec 32) (s : State) : Answered :=
  requestRow m (.setParam id value) s

/-- SET_PARAM_REPLY_LANE (R99). -/
def execSetParamReplyLane (m : Sender) (value : BitVec 32) (s : State) : Answered :=
  requestRow m (.setParam paramReplyLane value) s

/-- SET_PARAM_NOTICE_LANE (R99). -/
def execSetParamNoticeLane (m : Sender) (value : BitVec 32) (s : State) : Answered :=
  requestRow m (.setParam paramNoticeLane value) s

/-- SET_PARAM_NOTICE_DESTINATION (R164). -/
def execSetParamNoticeDestination (m : Sender) (value : BitVec 32) (s : State) : Answered :=
  requestRow m (.setParam paramNoticeDestination value) s

/-- SET_PARAM_NOTICE_RETRY_INTERVAL (R164). -/
def execSetParamNoticeRetryInterval (m : Sender) (value : BitVec 32) (s : State) : Answered :=
  requestRow m (.setParam paramRetryInterval value) s

/-- SET_PARAM_STEP_THRESHOLD (R68). -/
def execSetParamStepThreshold (m : Sender) (value : BitVec 32) (s : State) : Answered :=
  requestRow m (.setParam paramStepThreshold value) s

/-- SET_PARAM_HOLDOVER_TIMEOUT (R68). -/
def execSetParamHoldoverTimeout (m : Sender) (value : BitVec 32) (s : State) : Answered :=
  requestRow m (.setParam paramHoldoverTimeout value) s

/-- SET_PARAM_LANE_STALL_LIMIT (R107). -/
def execSetParamLaneStallLimit (m : Sender) (value : BitVec 32) (s : State) : Answered :=
  requestRow m (.setParam paramStallLimit value) s

/-- SET_PARAM_STAGING_TIMEOUT (R119). -/
def execSetParamStagingTimeout (m : Sender) (value : BitVec 32) (s : State) : Answered :=
  requestRow m (.setParam paramStagingTimeout value) s

end Sys2Proof.Machine
end

