-- ==== Sys2Proof/Machine/TimerEvents.lean ====
section
/-! DEFINITION. The commands of timers and of the lanes' own events. A command that stands for a timer's expiry lets
the reference-clock time pass that the timer still has to run (assumption log 4); where the timer does not run, or the
event cannot happen, the command has no effect (assumption log 5). -/

namespace Sys2Proof.Machine

open Sys2Proof

/-! ### The link's idle timer (R5) -/

/-- The rest of the idle timer passes, and the link is UP. -/
def idleTimerRunsOut (s : State) : State :=
  match s.link, s.idleTimer with
  | .acquiring, some e => { elapse (idleLimit - e) s with link := .up, idleTimer := none }
  | _, _ => s

/-- IDLE_TIMER_EXPIRY (R5). -/
def execIdleTimerExpiry (s : State) : Answered := act idleTimerRunsOut s

/-! ### The lanes (R102, R104, R106) -/

/-- The rest of a stall timer passes, and the PAUSED lane becomes BLOCKED with cause STALL; a reply discarded with it
may end a RESTART, or give the Agent room (R106, R109, R110, R137, R152). -/
def stallTimerRunsOut (l : Lane) (s : State) : State :=
  match (s.lane l).state, (s.lane l).stall with
  | .paused, some e =>
    agentRun (restartCheck (enterBlocked l .stall (elapse (stallLimit s.params - e) s)))
  | _, _ => s

/-- STALL_TIMER_EXPIRY (R106). -/
def execStallTimerExpiry (l : Lane) (s : State) : Answered := act (stallTimerRunsOut l) s

/-- LANE_SEND_START: the arbiter's choice starts; a reply that leaves its queue may give the Agent room (R101, R102,
R137). -/
def execLaneSendStart (l : Lane) (s : State) : Answered := act (fun s => agentRun (sendStart l s)) s

/-- A send ends at least one period after it started; its length is otherwise the wire's (assumption log 17). -/
def lastPeriods (l : Lane) (s : State) : Nat :=
  match (s.lane l).sending with
  | none => 0
  | some snd => 1 - snd.elapsed

/-- A send ends; the end of a RESTART's reply is followed by the hard reset, and replies discarded with a block may
give the Agent room (R104, R110, R137, R152). -/
def sendRunsOut (l : Lane) (s : State) : State :=
  match (s.lane l).sending with
  | none => s
  | some _ => agentRun (restartCheck (sendEnd l (elapse (lastPeriods l s) s)))

/-- LANE_SEND_END (R104). -/
def execLaneSendEnd (l : Lane) (s : State) : Answered := act (sendRunsOut l) s

/-- Time passes until the head of a lane's release queue is a candidate (R100, R106). The stall timer is judged with
the end of the command; an IDLE lane's send is the command LANE_SEND_START (assumption log 18). -/
def headComes (l : Lane) (s : State) : State :=
  match (s.lane l).releaseQueue with
  | [] => s
  | d :: _ =>
    match s.desc d with
    | none => s
    | some r => elapseUntil r.release s

/-- RELEASE_TIME_COMING (R100, R106). -/
def execReleaseTimeComing (l : Lane) (s : State) : Answered := act (headComes l) s

/-! ### The Gate Clock's timers (R66, R67) -/

/-- The rest of the slew interval passes, and with it one unit of the pending correction is applied (R66). -/
def slewIntervalRunsOut (s : State) : State :=
  if s.clock.pending = 0 then s else elapse (slewPeriods - s.clock.slew) s

/-- SLEW_INTERVAL_EXPIRY (R66). -/
def execSlewIntervalExpiry (s : State) : Answered := act slewIntervalRunsOut s

/-- The rest of the holdover timer passes, and it runs out (R67). -/
def holdoverTimerRunsOut (s : State) : State :=
  match s.clock.holdover with
  | none => s
  | some e => holdoverExpired (elapse (holdoverLimit s.params - e) s)

/-- HOLDOVER_TIMER_EXPIRY (R67). -/
def execHoldoverTimerExpiry (s : State) : Answered := act holdoverTimerRunsOut s

/-! ### The Change Stage (R73, R118, R131) -/

/-- Time passes until T has come, and the Gate Clock signals it (R73, R131). -/
def scheduledTimeComes (s : State) : State :=
  match s.stage.commit with
  | .idle => s
  | .scheduled t => commitSignal (elapseUntil t s)

/-- SCHEDULED_COMMIT (R131). -/
def execScheduledCommit (s : State) : Answered := act scheduledTimeComes s

/-- The rest of the staging timer passes, and it expires (R118). -/
def stagingTimerRunsOut (s : State) : State :=
  match s.stage.timer with
  | none => s
  | some e => stagingExpired (elapse (stagingLimit s.params - e) s)

/-- STAGING_TIMER_EXPIRY (R118). -/
def execStagingTimerExpiry (s : State) : Answered := act stagingTimerRunsOut s

/-! ### The Notice Unit (R161, R162) -/

/-- The retry timer of the record with a notice sequence; none where there is no such record or it is not WAITING. -/
def retryTimerOf (sequence : BitVec 16) (s : State) : Option Nat :=
  (s.notices.queue.find? fun n => decide (n.sequence = sequence)).bind fun n =>
    match n.condition with
    | .waiting t => some t
    | .due => none
    | .inFlight _ => none

/-- The record of a notice sequence runs out of its retry timer (R161). -/
def expireRetry (sequence : BitVec 16) (s : State) : State :=
  { s with
    notices :=
      { s.notices with
        queue := s.notices.queue.map fun n =>
          if n.sequence = sequence then retryExpired s.clock.time n else n } }

/-- The rest of a WAITING record's retry timer passes, and it runs out; a held timer stands still (R161, R162). -/
def retryTimerRunsOut (sequence : BitVec 16) (s : State) : State :=
  match noticesHeld s, retryTimerOf sequence s with
  | false, some t => expireRetry sequence (elapse (retryLimitPeriods s.params - t) s)
  | _, _ => s

/-- RETRY_TIMER_EXPIRY (R161). -/
def execRetryTimerExpiry (sequence : BitVec 16) (s : State) : Answered := act (retryTimerRunsOut sequence) s

/-! ### The Agent (R137) -/

/-- The work interval ends: a WORKING Agent is READY, and executes the next request where there is room (R137). -/
def workEnds (s : State) : State :=
  if s.agent.state = .working then
    agentRun
      { s with
        agent :=
          { s.agent with
            state := .ready
            work := 0 } }
  else s

/-- WORK_INTERVAL_END (R137). -/
def execWorkIntervalEnd (s : State) : Answered := act workEnds s

end Sys2Proof.Machine
end

