-- ==== Sys2Proof/Machine/TrunkEvents.lean ====
section
/-! DEFINITION. The commands of the trunk decoder: signal, alignment, code groups, delimiters and bytes (R4 to R8,
R11). -/

namespace Sys2Proof.Machine

open Sys2Proof

/-- The decoder sees a signal, or sees it no more. -/
def setSignal (present : Bool) (s : State) : State := { s with pins := { s.pins with signal := present } }

/-- A DOWN link moves to ACQUIRING with its idle timer at zero (R4). -/
def signalSeen (s : State) : State :=
  match s.link with
  | .down => { s with link := .acquiring, idleTimer := some 0 }
  | .acquiring => s
  | .up => s

/-- SIGNAL_PRESENT (R4). -/
def execSignalPresent (s : State) : Answered := act signalSeen (setSignal true s)

/-- An ACQUIRING or UP link goes DOWN (R6). -/
def signalLost (s : State) : State :=
  match s.link with
  | .down => s
  | .acquiring => linkDown .signal s
  | .up => linkDown .signal s

/-- LOSS_OF_SIGNAL (R6). -/
def execLossOfSignal (s : State) : Answered := act signalLost (setSignal false s)

/-- An UP link goes DOWN, an ACQUIRING link restarts its idle timer (R4, R6). -/
def alignmentLost (s : State) : State :=
  match s.link with
  | .down => s
  | .acquiring => restartIdle s
  | .up => linkDown .alignment s

/-- LOSS_OF_ALIGNMENT (R4, R6). -/
def execLossOfAlignment (s : State) : Answered := act alignmentLost s

/-- An invalid code group restarts the idle timer in ACQUIRING, and ends a reception in UP (R4, R7, R8). -/
def invalidGroup (s : State) : State :=
  match s.link with
  | .down => s
  | .acquiring => restartIdle s
  | .up => endEvent true s

/-- INVALID_CODE_GROUP (R8). -/
def execInvalidCodeGroup (s : State) : Answered := act invalidGroup s

/-- A new reception: its byte count is zero (R7). -/
def newReception : Reception := ⟨[], none⟩

/-- A start delimiter restarts the idle timer in ACQUIRING; in UP it ends a reception in progress and begins a new one
(R4, R7, R8). -/
def startGroup (s : State) : State :=
  match s.link with
  | .down => s
  | .acquiring => restartIdle s
  | .up => { endEvent true s with reception := some newReception }

/-- START_DELIMITER (R7, R8). -/
def execStartDelimiter (s : State) : Answered := act startGroup s

/-- A data byte restarts the idle timer in ACQUIRING; in UP it belongs to the reception in progress, and outside one it
is discarded (R4, R7). -/
def byteGroup (b : Byte) (s : State) : State :=
  match s.link with
  | .down => s
  | .acquiring => restartIdle s
  | .up =>
    match s.reception with
    | none => s
    | some r => receiveByte b r s

/-- DATA_BYTE (R7, R9). -/
def execDataByte (b : Byte) (s : State) : Answered := act (byteGroup b) s

/-- An end delimiter restarts the idle timer in ACQUIRING; in UP it ends the reception in progress, and outside one it
is discarded (R4, R7, R11). -/
def endGroup (s : State) : State :=
  match s.link with
  | .down => s
  | .acquiring => restartIdle s
  | .up => endEvent false s

/-- END_DELIMITER (R11). -/
def execEndDelimiter (s : State) : Answered := act endGroup s

end Sys2Proof.Machine
end

