-- ==== Sys2Proof/Machine/Dispatch.lean ====
section
/-! DEFINITION. The dispatch table: one arm for each row of the operation table, each one call of its meaning. -/

namespace Sys2Proof.Machine

open Sys2Proof

/-- The effect of a command on everything but the queue of commands. -/
def exec (i : Instr) (s : State) : Host.Outcome State Fault Refusal :=
  match i with
  | .powerOn straps => Sys2Proof.Machine.execPowerOn straps s
  | .resetNAsserted => Sys2Proof.Machine.execResetNAsserted s
  | .resetNReleased straps => Sys2Proof.Machine.execResetNReleased straps s
  | .signalPresent => Sys2Proof.Machine.execSignalPresent s
  | .lossOfSignal => Sys2Proof.Machine.execLossOfSignal s
  | .lossOfAlignment => Sys2Proof.Machine.execLossOfAlignment s
  | .invalidCodeGroup => Sys2Proof.Machine.execInvalidCodeGroup s
  | .idleTimerExpiry => Sys2Proof.Machine.execIdleTimerExpiry s
  | .startDelimiter => Sys2Proof.Machine.execStartDelimiter s
  | .dataByte b => Sys2Proof.Machine.execDataByte b s
  | .endDelimiter => Sys2Proof.Machine.execEndDelimiter s
  | .waitAsserted lane => Sys2Proof.Machine.execWaitAsserted lane s
  | .waitReleased lane => Sys2Proof.Machine.execWaitReleased lane s
  | .stallTimerExpiry lane => Sys2Proof.Machine.execStallTimerExpiry lane s
  | .laneSendStart lane => Sys2Proof.Machine.execLaneSendStart lane s
  | .laneSendEnd lane => Sys2Proof.Machine.execLaneSendEnd lane s
  | .slewIntervalExpiry => Sys2Proof.Machine.execSlewIntervalExpiry s
  | .holdoverTimerExpiry => Sys2Proof.Machine.execHoldoverTimerExpiry s
  | .scheduledCommit => Sys2Proof.Machine.execScheduledCommit s
  | .stagingTimerExpiry => Sys2Proof.Machine.execStagingTimerExpiry s
  | .retryTimerExpiry sequence => Sys2Proof.Machine.execRetryTimerExpiry sequence s
  | .workIntervalEnd => Sys2Proof.Machine.execWorkIntervalEnd s
  | .badRequest m code operands => Sys2Proof.Machine.execBadRequest m code operands s
  | .readStatus m => Sys2Proof.Machine.execReadStatus m s
  | .readEntry m slot => Sys2Proof.Machine.execReadEntry m slot s
  | .findTag m tag => Sys2Proof.Machine.execFindTag m tag s
  | .readCountersSlot m slot clear => Sys2Proof.Machine.execReadCountersSlot m slot clear s
  | .readCountersGlobal m slot clear => Sys2Proof.Machine.execReadCountersGlobal m slot clear s
  | .readStaged m index => Sys2Proof.Machine.execReadStaged m index s
  | .readParam m id => Sys2Proof.Machine.execReadParam m id s
  | .readTime m => Sys2Proof.Machine.execReadTime m s
  | .readTrap m offset => Sys2Proof.Machine.execReadTrap m offset s
  | .stageEntry m e => Sys2Proof.Machine.execStageEntry m e s
  | .stageRetire m slot => Sys2Proof.Machine.execStageRetire m slot s
  | .unstage m slot => Sys2Proof.Machine.execUnstage m slot s
  | .discardStaged m => Sys2Proof.Machine.execDiscardStaged m s
  | .commit m => Sys2Proof.Machine.execCommit m s
  | .commitAt m t => Sys2Proof.Machine.execCommitAt m t s
  | .cancelCommit m => Sys2Proof.Machine.execCancelCommit m s
  | .setParam m id value => Sys2Proof.Machine.execSetParam m id value s
  | .setParamReplyLane m value => Sys2Proof.Machine.execSetParamReplyLane m value s
  | .setParamNoticeLane m value => Sys2Proof.Machine.execSetParamNoticeLane m value s
  | .setParamNoticeDestination m value => Sys2Proof.Machine.execSetParamNoticeDestination m value s
  | .setParamNoticeRetryInterval m value => Sys2Proof.Machine.execSetParamNoticeRetryInterval m value s
  | .setParamStepThreshold m value => Sys2Proof.Machine.execSetParamStepThreshold m value s
  | .setParamHoldoverTimeout m value => Sys2Proof.Machine.execSetParamHoldoverTimeout m value s
  | .setParamLaneStallLimit m value => Sys2Proof.Machine.execSetParamLaneStallLimit m value s
  | .setParamStagingTimeout m value => Sys2Proof.Machine.execSetParamStagingTimeout m value s
  | .timeSet m value => Sys2Proof.Machine.execTimeSet m value s
  | .laneBlock m lane => Sys2Proof.Machine.execLaneBlock m lane s
  | .laneResume m lane => Sys2Proof.Machine.execLaneResume m lane s
  | .flush m => Sys2Proof.Machine.execFlush m s
  | .restart m => Sys2Proof.Machine.execRestart m s
  | .armTrap m ops => Sys2Proof.Machine.execArmTrap m ops s
  | .disarmTrap m => Sys2Proof.Machine.execDisarmTrap m s
  | .ackNotices m n => Sys2Proof.Machine.execAckNotices m n s
  | .releaseTimeComing lane => Sys2Proof.Machine.execReleaseTimeComing lane s

end Sys2Proof.Machine
end

