-- ==== Sys2Proof/Machine/Tick.lean ====
section
/-! DEFINITION. What the gate does when no command waits: it takes the first event that is due, and otherwise one
reference-clock period passes. The manual serialises events that meet (conventions, "Events and operations"); the order
in which the idle gate takes those that are due is the model's. Assumption log 3. -/

namespace Sys2Proof.Machine

open Sys2Proof

/-- A running timer has reached its limit. -/
def reached (limit : Nat) (timer : Option Nat) : Bool :=
  match timer with
  | some t => decide (limit ≤ t)
  | none => false

/-- The first WAITING record whose retry timer has reached the interval; none while the transmissions are held
(R161, R162). -/
def dueRetry (s : State) : Option Notice :=
  if noticesHeld s then none
  else
    s.notices.queue.find? fun n =>
      match n.condition with
      | .waiting t => decide (retryLimitPeriods s.params ≤ t)
      | .due => false
      | .inFlight _ => false

/-- A scheduled commit whose time has come (R73). -/
def commitDue (s : State) : Bool :=
  match s.stage.commit with
  | .idle => false
  | .scheduled t => hasCome s.clock.time t

/-- The idle timer of an ACQUIRING link has reached its limit (R5). -/
def idleDue (s : State) : Bool := decide (s.link = .acquiring) && reached idleLimit s.idleTimer

/-- The stall timer of a PAUSED lane has reached the limit (R106). -/
def stallDue (l : Lane) (s : State) : Bool :=
  decide ((s.lane l).state = .paused) && reached (stallLimit s.params) (s.lane l).stall

/-- The work interval is as long as it may be (R137). -/
def workDue (s : State) : Bool := decide (s.agent.state = .working) && decide (workLimit ≤ s.agent.work)

/-- An IDLE lane has a candidate ready (R101). -/
def sendDue (l : Lane) (s : State) : Bool := decide ((s.lane l).state = .idle) && hasCandidate l s

/-- The events that are due, in the order in which the idle gate takes them. -/
def dueEvents (s : State) : List Instr :=
  (if commitDue s then [.scheduledCommit] else []) ++
    (if idleDue s then [.idleTimerExpiry] else []) ++
    (if reached (holdoverLimit s.params) s.clock.holdover then [.holdoverTimerExpiry] else []) ++
    (if reached (stagingLimit s.params) s.stage.timer then [.stagingTimerExpiry] else []) ++
    ((dueRetry s).toList.map fun n => .retryTimerExpiry n.sequence) ++
    (if stallDue .a s then [.stallTimerExpiry .a] else []) ++
    (if stallDue .b s then [.stallTimerExpiry .b] else []) ++
    (if workDue s then [.workIntervalEnd] else []) ++
    (if sendDue .a s then [.laneSendStart .a] else []) ++
    (if sendDue .b s then [.laneSendStart .b] else [])

/-- The gate with no command waiting: in reset nothing; else the first due event, or one period. -/
def idle (s : State) : Answered :=
  if s.pins.resetN then
    match dueEvents s with
    | i :: _ => exec i s
    | [] => .next (settle (elapse 1 s))
  else .next s

end Sys2Proof.Machine
end

