-- ==== Sys2Proof/WellFormed.lean ====
section
/-! DEFINITION. Which terms of `Instr` stand for a command of the table. The machine gives every term a meaning, an
ill-formed one too; these checks say which row's name a term deserves. -/

namespace Sys2Proof

/-- A manager id that names a manager, 1 to 255 (section 8.1). -/
def Sender.wellFormed (m : Sender) : Bool := decide (m.manager ≠ 0)

/-- The most operand bytes a request payload holds: 1024 payload bytes less the four fields before them
(R10, section 8.1). -/
def maxOperandBytes : Nat := 1020

/-- The parameters that have a SET_PARAM row of their own in the operation table. -/
def hasOwnParamRow (id : Byte) : Bool :=
  [paramReplyLane, paramNoticeLane, paramNoticeDestination, paramRetryInterval, paramStepThreshold,
    paramHoldoverTimeout, paramStallLimit, paramStagingTimeout].contains id

/-- The checks of a command: a request row names a manager; a BAD_REQUEST is one (manager id 0, an unknown code or a
wrong number of operand bytes, R138) and fits a payload; the plain SET_PARAM row leaves the parameters that have
their own row to that row. -/
def Instr.wellFormed (i : Instr) : Bool :=
  match i with
  | .badRequest m code operands =>
    decide (operands.length ≤ maxOperandBytes) &&
      (decide (m.manager = 0) || (decodeRequest code operands).isNone)
  | .setParam m id _ => m.wellFormed && !hasOwnParamRow id
  | i =>
    match i.request with
    | some (m, _) => m.wellFormed
    | none => true

end Sys2Proof
end

