-- ==== Sys2Proof/Safety.lean ====
section
/-! DEFINITION. The vocabulary of the statements: when a request is taken at once as a new one, what an answered request
leaves, and the laws the manual gives for the gate's state. -/

namespace Sys2Proof.Machine

open Sys2Proof

/-! ### Requests (R137 to R142) -/

/-- A request of the sender is executed at its intake as a new one: the gate is out of reset, the Agent READY with no
request waiting and room for the reply (R137), the manager id names a manager and the request is no repetition (R138,
R141). -/
def Accepts (m : Sender) (s : State) : Prop :=
  s.pins.resetN = true ∧ s.agent.state = .ready ∧ s.agent.requests = [] ∧ s.agent.replies.length < 8 ∧
    m.manager ≠ 0 ∧ repetition s.agent.managers m.manager m.txn = none

/-- The state in which the request's own rule is applied: the owner's staging timer restarted (R118), the manager's
entry found or created and most recent (R140). -/
def taken (m : Sender) (s : State) : State :=
  { restartStaging m.manager s with
    agent := { s.agent with managers := touchManager s.agent.managers m.manager } }

/-- The reply that a request gets: envelope, code, result and data, created at the gate time of `u` (R139). -/
def replyOf (m : Sender) (code : Byte) (result : Result) (data : List Byte) (restart : Bool) (u : State) : Reply :=
  { manager := m.manager
    txn := m.txn
    code := code
    result := result
    duplicate := false
    allGates := m.allGates
    data := data
    created := u.clock.time
    restart := restart }

/-- The manager's entry takes transaction, result and mark, the Agent is in a state after its execution, and the reply
stands last in the reply queue, or is lost and counted where the reply lane is BLOCKED (R137, R139, R142, R143). -/
def withReply (m : Sender) (agentState : AgentState) (last : LastRequest) (reply : Reply) (u : State) : State :=
  let a :=
    { u.agent with
      state := agentState
      work := 0
      managers := u.agent.managers.map fun e => if e.manager = m.manager then { e with last := some last } else e }
  if u.blocked u.params.replyLane then
    { u with
      agent := a
      counters := { u.counters with repliesLost := u.counters.repliesLost + 1 } }
  else { u with agent := { a with replies := u.agent.replies ++ [reply] } }

/-- What a request leaves whose effects leave `u`: the stall timers judged, then its reply (R106, R139). -/
def answered (m : Sender) (code : Byte) (result : Result) (data : List Byte) (changing : Bool) (u : State) : State :=
  withReply m .working ⟨m.txn, result, changing⟩ (replyOf m code result data false u) (settle u)

/-! ### Frames taken from the lanes (R28, R34, R36) -/

/-- An entry after frames of its stream were lost to the lanes and `freed` of its descriptors were freed: the lane-lost
counters rise and set the discontinuity flags, the held count falls, and a RETIRING slot that is not engaged and whose
last descriptor went is VACANT. -/
def entryAfterDrops (lostA lostB freed : Nat) (engaged : Bool) (e : Entry) : Entry :=
  { e with
    state :=
      if e.state = .retiring ∧ 0 < freed ∧ e.held - freed = 0 ∧ engaged = false then .vacant else e.state
    held := e.held - freed
    discontinuityA := e.discontinuityA || decide (0 < lostA)
    discontinuityB := e.discontinuityB || decide (0 < lostB)
    counters :=
      { e.counters with
        laneLostA := e.counters.laneLostA + BitVec.ofNat 32 lostA
        laneLostB := e.counters.laneLostB + BitVec.ofNat 32 lostB } }

/-- The RETIRED raises of slots that have become VACANT, one after another, each with the slot's tag and received counter
(R28). -/
def raiseRetired (slots : List Slot) (s : State) : State :=
  slots.foldl (fun u k => raise .retired (some k) (s.entry k).config.tag (s.entry k).counters.received u) s

/-! ### The laws of the manual -/

/-- The Agent's queues and table (R135, R140, R143). -/
def AgentLaw (s : State) : Prop :=
  s.agent.requests.length ≤ 4 ∧ s.agent.replies.length ≤ 8 ∧ s.agent.managers.length ≤ 4 ∧
    (s.agent.managers.map (·.manager)).Nodup

/-- The reply of a RESTART waits or is being sent only while the Agent is RESTARTING (R151, R152). -/
def RestartLaw (s : State) : Prop :=
  s.agent.state ≠ .restarting →
    (∀ r ∈ s.agent.replies, r.restart = false) ∧ sendingRestart s.laneA = false ∧ sendingRestart s.laneB = false

/-- The Pending Change List: at most 16 changes, at most one for a slot, an owner exactly when it is not empty
(R115, R117). -/
def ListLaw (st : Stage) : Prop :=
  st.changes.length ≤ 16 ∧ (st.changes.map Change.slot).Nodup ∧ (st.owner.isSome = true ↔ st.changes ≠ [])

/-- SCHEDULED only with a list and a clock that is not FREE (R124); the staging timer runs exactly while the list is
not empty and the commit state is IDLE (R118). -/
def CommitLaw (s : State) : Prop :=
  (∀ t, s.stage.commit = .scheduled t → s.stage.changes ≠ [] ∧ s.clock.state ≠ .free) ∧
    (s.stage.timer.isSome = true ↔ s.stage.changes ≠ [] ∧ s.stage.commit = .idle)

/-- The Notice Queue: at most 16 records, no two of one class and slot, occurrence counts 1 to 255, retries left at
most 7 (R155); empty while the destination is 0 (R164). -/
def NoticeLaw (s : State) : Prop :=
  s.notices.queue.length ≤ 16 ∧ (s.notices.queue.map fun n => (n.cls, n.slot)).Nodup ∧
    (∀ n ∈ s.notices.queue, 1 ≤ n.count ∧ n.count ≤ 255 ∧ n.retriesLeft ≤ 7) ∧
    (s.params.noticeDestination = 0 → s.notices.queue = [])

/-- Every parameter is in the range of section 8.6. -/
def ParamLaw (p : Params) : Prop :=
  (10 ≤ p.retryInterval ∧ p.retryInterval ≤ 10000) ∧ p.retryLimit ≤ 7 ∧ p.pathCompensation ≤ 65535 ∧
    (1 ≤ p.stepThreshold ∧ p.stepThreshold ≤ 1000000) ∧ (10 ≤ p.holdoverTimeout ∧ p.holdoverTimeout ≤ 10000) ∧
    (100 ≤ p.stallLimit ∧ p.stallLimit ≤ 1000000) ∧ (1 ≤ p.stagingTimeout ∧ p.stagingTimeout ≤ 60)

/-- The clock: the pending correction is below the step threshold, and 0 in FREE; the slew interval is below 4096; a
FREE clock has no holdover timer running and has heard no reference (R62, R65, R66, R67). -/
def ClockLaw (s : State) : Prop :=
  s.clock.pending.natAbs < s.params.stepThreshold ∧ s.clock.slew < 4096 ∧
    (s.clock.state = .free → s.clock.pending = 0 ∧ s.clock.holdover = none ∧ s.clock.lastReference = none)

/-- A configuration in the ranges of R20. -/
def ConfigInRange (c : EntryConfig) : Prop :=
  c.tag.toNat < 0xF000 ∧ c.holdOffset.toNat ≤ 50000000 ∧ 1 ≤ c.holdQuota.toNat

/-- Every staged SET-ENTRY is in range (R120). -/
def StagedInRange (st : Stage) : Prop :=
  ∀ c ∈ st.changes, ∀ k into config reset, c = .setEntry k into config reset → ConfigInRange config

/-- The Stream Table: every entry that is not VACANT is in range, and no two slots that are not VACANT hold the same
tag (R20, R32). -/
def TableLaw (s : State) : Prop :=
  (∀ k, (s.entry k).state ≠ .vacant → ConfigInRange (s.entry k).config) ∧
    ∀ j k, (s.entry j).state ≠ .vacant → (s.entry k).state ≠ .vacant →
      (s.entry j).config.tag = (s.entry k).config.tag → j = k

/-- The sum of R38: received is admitted plus the eight discard counters, modulo 2^32. -/
def CountsAddUp (c : SlotCounters) : Prop :=
  c.received =
    c.admitted + c.discardedErrored + c.discardedBehind + c.discardedLate + c.discardedTooEarly + c.discardedQuota +
      c.discardedPool + c.discardedMuted + c.discardedFlushed

/-- Every slot's counters add up (R38). -/
def CounterLaw (s : State) : Prop := ∀ k, CountsAddUp (s.entry k).counters

/-- The cells that the descriptors in use own. -/
def ownedCells (s : State) : List Nat := s.descsInUse.flatMap (·.cells)

/-- Free cells and owned cells are together the 1024 cells, each once (R75). -/
def CellLaw (s : State) : Prop := (s.pool.freeCells ++ ownedCells s).Perm (List.range 1024)

/-- The number of descriptors in use whose stream is a slot (R34). -/
def descsOfSlot (s : State) (k : Slot) : Nat := (s.descsInUse.filter fun r => decide (r.stream = .slot k)).length

/-- The held count of each slot: its descriptors in use, RESERVED or HELD; at most 255; 0 in a VACANT slot (R34). At
most 32 transit descriptors are in use (R76). -/
def HeldLaw (s : State) : Prop :=
  (∀ k, (s.entry k).held = descsOfSlot s k ∧ (s.entry k).held ≤ 255 ∧
      ((s.entry k).state = .vacant → (s.entry k).held = 0)) ∧
    s.transitCount ≤ 32

/-- A lane: a send is in progress exactly in SENDING and BLOCK-PENDING (section 6.4), and a BLOCKED lane has empty
queues (R109, R110). -/
def LaneLaw (s : State) : Prop :=
  ∀ l, ((s.lane l).sending.isSome = true ↔ (s.lane l).state = .sending ∨ (s.lane l).state = .blockPending) ∧
    ((s.lane l).state = .blocked → laneQueues l s = [])

/-- A descriptor in use is HELD with the lane in its remaining set. -/
def heldFor (l : Lane) (s : State) (d : DescNo) : Prop :=
  ∃ r, s.desc d = some r ∧ r.condition = .held ∧ r.remaining.has l = true

/-- The queues and the descriptors. What a lane's queues hold is HELD with the lane in its remaining set, each once, the
release queue holding stream frames and the transit queue transit frames (R76, R96, R97); what a lane is sending is HELD
with the lane in its remaining set and has left the queues (R102). No descriptor in use has an empty remaining set, and
a transit frame's is lane A alone (R77, R87). The reservation of the frame in reception is RESERVED for its stream
(R86, R87). Out of reset there is no other RESERVED descriptor (R76), and a HELD descriptor is in a queue of a lane or
being sent on it for every lane of its remaining set (R97). -/
def QueueLaw (s : State) : Prop :=
  (∀ l, (laneQueues l s).Nodup ∧ (∀ d ∈ laneQueues l s, heldFor l s d ∧ sendingOn s d l = false) ∧
      (∀ d ∈ (s.lane l).releaseQueue, ∀ r, s.desc d = some r → r.stream ≠ .transit) ∧
      ∀ d, sendingOn s d l = true → heldFor l s d) ∧
    (∀ d ∈ s.transitQueue, ∀ r, s.desc d = some r → r.stream = .transit) ∧
    (∀ d r, s.desc d = some r →
      r.remaining ≠ ⟨false, false⟩ ∧ (r.stream = .transit → r.remaining = ⟨true, false⟩)) ∧
    (∀ c d, s.context = some c → c.reservation = some d →
      ∃ r, s.desc d = some r ∧ r.condition = .reserved ∧
        r.stream = match c.classified with
          | some cl => .slot cl.slot
          | none => .transit) ∧
    (s.pins.resetN = true → ∀ d r, s.desc d = some r →
      (r.condition = .reserved → s.context.bind (·.reservation) = some d) ∧
        (r.condition = .held → ∀ l, r.remaining.has l = true → d ∈ laneQueues l s ∨ sendingOn s d l = true))

/-- The stall timer runs exactly while the lane is PAUSED and has a candidate ready (R106). -/
def StallLaw (s : State) : Prop :=
  ∀ l, (s.lane l).stall.isSome = true ↔ (s.lane l).state = .paused ∧ hasCandidate l s = true

/-- The link: the idle timer runs exactly in ACQUIRING (R4, R5), and a reception is in progress only in UP (R7). -/
def LinkLaw (s : State) : Prop :=
  (s.idleTimer.isSome = true ↔ s.link = .acquiring) ∧ (s.reception.isSome = true → s.link = .up)

/-- The trap: at most 1088 bytes; no capture in IDLE and ARMED; no record while FILLING; a record while HELD
(R167, R170, R171). -/
def TrapLaw (t : Trap) : Prop :=
  t.buffer.length ≤ 1088 ∧ (t.state = .idle ∨ t.state = .armed → t.buffer = [] ∧ t.record = none) ∧
    (t.state = .filling → t.record = none) ∧ (t.state = .held → t.record.isSome = true)

end Sys2Proof.Machine
end

