-- ==== Sys2Proof/Certificates/Slice0/Obligations.lean ====
section
/-! DEFINITION. The statements about the gate: each a `Prop` of its own, listed in OBLIGATIONS.json. Where a statement
says `.next (settle u)`, `u` is what the command leaves and `settle` judges the two stall timers anew (R106,
`StallTimersFollowCandidates`), with nothing else changed; that they are judged at the end of a command, once, is the
model's choice (assumption log 37). A request row's next state is `settle (answered m code result
data changing u)`: `u` is what the request leaves of `taken m s`, and `answered` adds its reply (Sys2Proof/Safety.lean). -/

open Sys2Proof Sys2Proof.Machine

/-! ### The machine -/

/-- A step takes the command at the front of the queue and runs it with the queue's rest. -/
def Obligations.StepRunsTheFrontCommand : Prop :=
  ∀ (c : Instr) (rest : List Instr) (s : State), s.pending = c :: rest → step s = exec c { s with pending := rest }

/-- Every command has an effect or none in every state: no command stops the gate, and none changes the queue of
commands. The model's choice for a command whose event cannot occur: assumption log 5. The gate number is kept until the
next hard reset (R1): a command that changes it leaves the gate right after a hard reset. -/
def Obligations.EveryCommandAnswersAndKeepsQueueAndGateNumber : Prop :=
  ∀ (c : Instr) (s : State), ∃ t, exec c s = .next t ∧ t.pending = s.pending ∧
    (t.gateNumber = s.gateNumber ∨ ∃ u, t = hardReset u)

/-- With no command waiting the gate takes the first event that is due, and with none due one period of the reference
clock passes; in reset nothing (the model's choice, assumption log 3, as is the order of the due events, written out
here; periods of 8 ns: log 2). That a work interval, which R137 bounds by 2 µs, ends after exactly 250 periods of idle
steps is the model's choice (assumption log 20). Time leaves alone every register that is no timer and not the count
(R58); the idle timer of an ACQUIRING link counts every period, as though each were idle fill with alignment held (the
model's choice, assumption log 29), and held retry timers stand (R162). -/
def Obligations.IdlePeriodsMoveOnlyTimers : Prop :=
  (∀ s : State, s.pending = [] →
     (s.pins.resetN = false → step s = .next s) ∧
       (s.pins.resetN = true → dueEvents s = [] → step s = .next (settle (elapse 1 s))) ∧
       ∀ i rest, s.pins.resetN = true → dueEvents s = i :: rest → step s = exec i s) ∧
    (∀ s : State,
      let due := fun (b : Bool) (i : Instr) => if b then [i] else []
      let reached := fun (limit : Nat) (timer : Option Nat) => timer.any fun e => decide (limit ≤ e)
      let retry := fun (n : Notice) =>
        match n.condition with
        | .waiting e => decide (s.params.retryInterval * 125000 ≤ e)
        | _ => false
      let stall := fun (l : Lane) =>
        decide ((s.lane l).state = .paused) && reached (s.params.stallLimit * 125) (s.lane l).stall
      let send := fun (l : Lane) => decide ((s.lane l).state = .idle) && hasCandidate l s
      dueEvents s =
        due
            (match s.stage.commit with
            | .idle => false
            | .scheduled time => decide ((s.clock.time - time).toNat < 2 ^ 47))
            .scheduledCommit ++
          due (decide (s.link = .acquiring) && reached 2000 s.idleTimer) .idleTimerExpiry ++
          due (reached (s.params.holdoverTimeout * 125000) s.clock.holdover) .holdoverTimerExpiry ++
          due (reached (s.params.stagingTimeout * 125000000) s.stage.timer) .stagingTimerExpiry ++
          (if (s.lane s.params.noticeLane).state = .blocked then []
          else ((s.notices.queue.find? retry).map fun n => Instr.retryTimerExpiry n.sequence).toList) ++
          due (stall .a) (.stallTimerExpiry .a) ++ due (stall .b) (.stallTimerExpiry .b) ++
          due (decide (s.agent.state = .working) && decide (250 ≤ s.agent.work)) .workIntervalEnd ++
          due (send .a) (.laneSendStart .a) ++ due (send .b) (.laneSendStart .b)) ∧
    ∀ (n : Nat) (s : State),
      let lane := fun (u : LaneUnit) =>
        { u with
          sending := u.sending.map fun x => { x with elapsed := x.elapsed + n }
          stall := u.stall.map (· + n) }
      elapse n s =
        { s with
          idleTimer := s.idleTimer.map (· + n)
          clock := clockAfter s.clock n
          laneA := lane s.laneA
          laneB := lane s.laneB
          stage := { s.stage with timer := s.stage.timer.map (· + n) }
          agent := if s.agent.state = .working then { s.agent with work := s.agent.work + n } else s.agent
          notices :=
            if (s.lane s.params.noticeLane).state = .blocked then s.notices
            else
              { s.notices with
                queue := s.notices.queue.map fun r =>
                  match r.condition with
                  | .waiting t => { r with condition := .waiting (t + n) }
                  | _ => r } }

/-! ### Hard reset (R1, R3, R4, R24, R57, R75, R114, R133, R154, R166, R167) -/

/-- The gate right after a hard reset that samples `straps`, written out: every block at the value its chapter states.
The pins keep their levels; `freeCount` and `pending` are the model's own. -/
def Obligations.HardResetGivesEveryBlockItsResetValues : Prop :=
  ∀ (straps : Byte) (s : State),
    let zeroCounts : SlotCounters := ⟨0, 0, 0, 0, 0, 0, 0, 0, 0, 0, 0, 0, 0, 0, 0⟩
    let vacant : Entry :=
      { state := .vacant
        config := ⟨0x0000, ⟨false, false⟩, .pass, 0, .forwardMarked, .discard, false, .check, 0⟩
        held := 0
        expected := none
        behindRun := 0
        discontinuityA := false
        discontinuityB := false
        lastArrival := none
        counters := zeroCounts }
    let after : State :=
      { pins := { s.pins with straps := straps, resetN := true }
        gateNumber := straps
        link := if s.pins.signal then .acquiring else .down
        idleTimer := if s.pins.signal then some 0 else none
        reception := none
        table := Vector.replicate 64 vacant
        clock := ⟨0, .free, 0, 0, none, none⟩
        pool := ⟨Vector.replicate 256 none, List.range 1024, 0⟩
        laneA := ⟨if s.pins.waitA then .paused else .idle, [], none, none⟩
        laneB := ⟨if s.pins.waitB then .paused else .idle, [], none, none⟩
        transitQueue := []
        stage := ⟨[], none, .idle, none⟩
        agent := ⟨.ready, 0, [], [], [], 0⟩
        params := ⟨.a, .a, 0, 0xFFFF, 100, 3, .transit, 0xFFFF, 0, 1000, 2000, 20000, 5⟩
        notices := ⟨[], 0, false⟩
        trap := ⟨.idle, none, none, .any, .oneShot, [], none, 0⟩
        counters := ⟨0, 0, 0, 0, 0, 0, 0, 0, 0, 0, 0, 0⟩
        freeCount := s.freeCount
        pending := s.pending }
    exec (.powerOn straps) s = .next after ∧
      (s.pins.resetN = false → exec (.resetNReleased straps) s = .next after)

/-- RESET_N going low ends the reception with no end event and abandons both sends; link DOWN, gate time 0 (R3, R57).
That every other register keeps its value until the release is the model's choice, assumption log 7. While RESET_N is
low no command but POWER_ON and the release does more than change a pin's level. A release of a high RESET_N changes
nothing (assumption log 5). -/
def Obligations.ResetPinHoldsTheGate : Prop :=
  (∀ s : State,
      exec .resetNAsserted s =
        .next
          { s with
            pins := { s.pins with resetN := false }
            link := .down
            idleTimer := none
            reception := none
            laneA := { s.laneA with state := .idle, sending := none, stall := none }
            laneB := { s.laneB with state := .idle, sending := none, stall := none }
            clock := { s.clock with time := 0 } }) ∧
    (∀ (s : State) (straps : Byte), s.pins.resetN = true → exec (.resetNReleased straps) s = .next s) ∧
    ∀ (c : Instr) (s : State), s.pins.resetN = false → (∀ x, c ≠ .powerOn x) → (∀ x, c ≠ .resetNReleased x) →
      c ≠ .resetNAsserted →
      exec c s =
        .next
          (match c with
          | .waitAsserted .a => { s with pins := { s.pins with waitA := true } }
          | .waitAsserted .b => { s with pins := { s.pins with waitB := true } }
          | .waitReleased .a => { s with pins := { s.pins with waitA := false } }
          | .waitReleased .b => { s with pins := { s.pins with waitB := false } }
          | .signalPresent => { s with pins := { s.pins with signal := true } }
          | .lossOfSignal => { s with pins := { s.pins with signal := false } }
          | _ => s)

/-! ### The link (R4 to R6) -/

/-- SIGNAL_PRESENT moves a DOWN link to ACQUIRING with its idle timer at zero (R4). In ACQUIRING every code group other
than idle fill, and loss of alignment, restart the idle timer and do nothing else, and in DOWN nothing (R4); that the
timer runs on from zero at once after a loss of alignment is the model's choice (assumption log 29). IDLE_TIMER_EXPIRY:
the command lets the rest of 16 µs pass (the model's choice, assumption log 4; 2000 periods, assumption log 2) and the
link is UP (R5). -/
def Obligations.LinkComesUpThroughAcquiring : Prop :=
  (∀ s : State, s.pins.resetN = true →
     exec .signalPresent s =
       .next
         (settle
           (if s.link = .down then
             { s with
               pins := { s.pins with signal := true }
               link := .acquiring
               idleTimer := some 0 }
           else { s with pins := { s.pins with signal := true } }))) ∧
    (∀ (s : State) (b : Byte) (c : Instr), s.pins.resetN = true →
       c ∈ [Instr.lossOfAlignment, .invalidCodeGroup, .startDelimiter, .dataByte b, .endDelimiter] →
       (s.link = .acquiring → exec c s = .next (settle { s with idleTimer := some 0 })) ∧
         (s.link = .down → exec c s = .next (settle s))) ∧
    ∀ (s : State) (e : Nat), s.pins.resetN = true → s.link = .acquiring → s.idleTimer = some e →
      exec .idleTimerExpiry s = .next (settle { elapse (2000 - e) s with link := .up, idleTimer := none })

/-- Loss of signal in ACQUIRING or UP, and loss of alignment in UP: the reception in progress ends early, the link is
DOWN, a move from UP is counted in link losses, and LINK-DOWN is raised with the cause and the state left; loss of
signal in DOWN changes the pin's level alone (R6). That LINK-DOWN is raised after the end event's own notices is the
model's reading (assumption log 11). -/
def Obligations.LinkLossEndsTheReceptionAndIsReported : Prop :=
  (∀ s : State, s.pins.resetN = true →
      exec .lossOfSignal s =
        .next
          (settle
            (let p := { s with pins := { s.pins with signal := false } }
            if s.link = .down then p
            else
              let t := { endEvent true p with link := .down, idleTimer := none }
              raise .linkDown none 0xFFFF (detail8 0 (if s.link = .up then 2 else 1) 0 0)
                (if s.link = .up then { t with counters := { t.counters with linkLosses := t.counters.linkLosses + 1 } }
                else t)))) ∧
    ∀ s : State, s.pins.resetN = true → s.link = .up →
      exec .lossOfAlignment s =
        .next
          (settle
            (let t := { endEvent true s with link := .down, idleTimer := none }
            raise .linkDown none 0xFFFF (detail8 1 2 0 0)
              { t with counters := { t.counters with linkLosses := t.counters.linkLosses + 1 } }))

/-! ### Receptions (R7 to R18) -/

/-- In UP: a start delimiter begins a reception with byte count zero, ending one in progress early first, and an invalid
code group ends one early. Outside a reception data bytes, end delimiters and invalid code groups have no effect
(R7, R8). A reception that ends without a header event adds one to truncated and does nothing else (R12). A data byte
of a reception is counted, and before the 14th that is all. The 14th is the header event. After it the byte goes to the
reservation's cells while it lies within the declared length (R86), and to the Trap Buffer while the trap is FILLING and
holds fewer than 1088 bytes (R170). -/
def Obligations.ReceptionsRunFromDelimiterToEnd : Prop :=
  (∀ s : State, s.pins.resetN = true → s.link = .up →
     exec .startDelimiter s = .next (settle { endEvent true s with reception := some ⟨[], none⟩ }) ∧
       exec .invalidCodeGroup s = .next (settle (endEvent true s)) ∧
       exec .endDelimiter s = .next (settle (endEvent false s)) ∧
       (s.reception = none → ∀ early, endEvent early s = s) ∧
       (s.reception = none → ∀ b, exec (.dataByte b) s = .next (settle s)) ∧
       ∀ bytes early, s.reception = some ⟨bytes, none⟩ →
         endEvent early s =
           { s with
             reception := none
             counters := { s.counters with truncated := s.counters.truncated + 1 } }) ∧
    ∀ (s : State) (bytes : List Byte) (b : Byte), s.pins.resetN = true → s.link = .up →
      (s.reception = some ⟨bytes, none⟩ → bytes.length ≠ 13 →
          exec (.dataByte b) s = .next (settle { s with reception := some ⟨bytes ++ [b], none⟩ })) ∧
        (s.reception = some ⟨bytes, none⟩ → bytes.length = 13 →
          exec (.dataByte b) s =
            .next (settle (headerEvent (bytes ++ [b]) { s with reception := some ⟨bytes ++ [b], none⟩ }))) ∧
        ∀ c : Context, s.reception = some ⟨bytes, some c⟩ →
          exec (.dataByte b) s =
            .next
              (settle
                { s with
                  reception := some ⟨bytes ++ [b], some c⟩
                  pool :=
                    match c.reservation with
                    | none => s.pool
                    | some d =>
                      match s.pool.descs.get d with
                      | none => s.pool
                      | some r =>
                        if bytes.length + 1 ≤ c.declared then
                          { s.pool with descs := s.pool.descs.set d.val (some { r with data := r.data ++ [b] }) d.isLt }
                        else s.pool
                  trap :=
                    if s.trap.state = .filling ∧ s.trap.buffer.length < 1088 then
                      { s.trap with buffer := s.trap.buffer ++ [b] }
                    else s.trap })

/-- What the header event fixes for the whole reception, whatever the frame: arrival time, header fields as received,
origin time absent when its bit is clear, declared length, dispatch class (R9), the bytes received staying. The class is
malformed by the four checks of R10, else by the table of R13, with the gate's own source tag 0xF000 plus its gate
number, 0xF0FF for an unnumbered gate (R1, R2), and a TIME frame too short for a master time as transit (R15). -/
def Obligations.HeaderEventFixesContextAndClass : Prop :=
  (∀ (s : State) (bytes : List Byte) (h : Header), decodeHeader bytes = some h →
     ∃ c, (headerEvent bytes s).reception = some ⟨bytes, some c⟩ ∧
       c.arrival = s.clock.time ∧ c.kind = h.kind ∧ c.flags = h.flags ∧ c.tag = h.tag ∧ c.sequence = h.sequence ∧
       c.payloadLength = h.payloadLength ∧ c.origin = (if h.flags.getLsbD 7 then some h.originTime else none) ∧
       c.declared = 14 + h.payloadLength.toNat + 8 * (h.flags.extractLsb' 0 3).toNat + 4 ∧ c.cls = dispatch s h ∧
       c.flushed = false ∧ c.timeSet = false) ∧
    ∀ (s : State) (h : Header),
      let k := h.kind.toNat
      let ownTag : Tag := BitVec.ofNat 16 (0xF000 + s.gateNumber.toNat)
      dispatch s h =
        if k < 1 ∨ 5 < k ∨ 1024 < h.payloadLength.toNat ∨ 4 < (h.flags.extractLsb' 0 3).toNat ∨
            (k = 1 ∧ 0xF000 ≤ h.tag.toNat) then
          .malformed
        else if k = 1 then .streamCandidate
        else if k = 2 then
          if h.tag = s.params.referenceTag ∧ s.params.referenceTag ≠ 0xFFFF ∧ 7 ≤ h.payloadLength.toNat then
            .timeReference
          else .transit
        else if k = 3 then
          if s.gateNumber ≠ 255 ∧ h.tag = ownTag then .localRequest
          else if h.tag = 0xF0FF then .allGatesRequest
          else .transit
        else if h.tag = ownTag then .ownReturned
        else .transit

/-- What the header event does (R9, R14 to R17, R30, R33): the context is opened, the blocks of the dispatch class act, and
the frame with its context as they leave it is offered to the trap. MALFORMED and OWN-RETURNED frames are counted, a
LOCAL-REQUEST is let by, TRANSIT, TIME-REFERENCE and ALL-GATES-REQUEST frames go to transit admission. A STREAM-CANDIDATE
is classified to the ACTIVE or MUTED slot that holds its tag. With no such slot it is counted in unknown tag and
UNKNOWN-TAG is raised with slot "none", its tag, its sequence number and the action; then it is handled as transit, or
dropped. -/
def Obligations.HeaderEventActsByClass : Prop :=
  (∀ (s : State) (bytes : List Byte) (h : Header), decodeHeader bytes = some h →
     let opened : Context :=
       { arrival := s.clock.time
         kind := h.kind
         flags := h.flags
         tag := h.tag
         sequence := h.sequence
         payloadLength := h.payloadLength
         origin := if h.flags.getLsbD 7 then some h.originTime else none
         declared := 14 + h.payloadLength.toNat + 8 * (h.flags.extractLsb' 0 3).toNat + 4
         cls := dispatch s h
         classified := none
         verdict := .unjudged
         admission := .noAction
         stampFlags := ⟨false, false, false, false, false, false⟩
         reservation := none
         flushed := false
         timeSet := false }
     let w := headerDispatch bytes ⟨s, opened⟩
     headerEvent bytes s = offerTrap w.context bytes { w.state with reception := some ⟨bytes, some w.context⟩ }) ∧
    ∀ (data : List Byte) (s : State) (c : Context),
      (c.cls = .malformed →
          headerDispatch data ⟨s, c⟩ =
            ⟨{ s with counters := { s.counters with malformed := s.counters.malformed + 1 } }, c⟩) ∧
        (c.cls = .ownReturned →
          headerDispatch data ⟨s, c⟩ =
            ⟨{ s with counters := { s.counters with ownReturned := s.counters.ownReturned + 1 } }, c⟩) ∧
        (c.cls = .localRequest → headerDispatch data ⟨s, c⟩ = ⟨s, c⟩) ∧
        (c.cls = .transit ∨ c.cls = .timeReference ∨ c.cls = .allGatesRequest →
          headerDispatch data ⟨s, c⟩ = admitTransit data ⟨s, c⟩) ∧
        (∀ k : Slot, c.cls = .streamCandidate → TableLaw s →
          (s.entry k).state = .active ∨ (s.entry k).state = .muted → (s.entry k).config.tag = c.tag →
          headerDispatch data ⟨s, c⟩ = headerClassified k data ⟨s, c⟩) ∧
        (c.cls = .streamCandidate →
          (∀ k, (s.entry k).state = .active ∨ (s.entry k).state = .muted → (s.entry k).config.tag ≠ c.tag) →
          let counted := { s with counters := { s.counters with unknownTag := s.counters.unknownTag + 1 } }
          headerDispatch data ⟨s, c⟩ =
            match s.params.unknownAction with
            | .transit =>
              admitTransit data
                ⟨raise .unknownTag none c.tag (c.sequence ++ (0 : Byte) ++ (0 : Byte)) counted, c⟩
            | .discard =>
              ⟨raise .unknownTag none c.tag (c.sequence ++ (1 : Byte) ++ (0 : Byte)) counted, c⟩)

/-- The outcome of a reception with a header event goes by length first, then by check word, and one ended early is never
GOOD or BAD-CHECK (R8, R11). At the end event of a classified frame its slot counts it in received and in exactly one
fate counter, the first line of the table that applies (R37). -/
def Obligations.EndEventFixesOutcomeAndFate : Prop :=
  (∀ (c : Context) (bytes : List Byte) (early : Bool),
     endOutcome c bytes early =
       if bytes.length < c.declared then .truncated
       else if c.declared < bytes.length then .overlong
       else if early = true then .truncated
       else if bytes.drop (bytes.length - 4) = bytes32 (checkWord (bytes.take (bytes.length - 4))) then .good
       else .badCheck) ∧
    ∀ (c : Context) (cl : Classified) (outcome : EndOutcome) (s : State), c.classified = some cl →
      let k := { (s.entry cl.slot).counters with received := (s.entry cl.slot).counters.received + 1 }
      countEnd c outcome s =
        s.setEntry cl.slot
          { s.entry cl.slot with
            counters :=
              if c.flushed = true then { k with discardedFlushed := k.discardedFlushed + 1 }
              else if cl.state = .muted then { k with discardedMuted := k.discardedMuted + 1 }
              else if c.admission = .behind then { k with discardedBehind := k.discardedBehind + 1 }
              else if c.admission = .late then { k with discardedLate := k.discardedLate + 1 }
              else if c.admission = .tooEarly then { k with discardedTooEarly := k.discardedTooEarly + 1 }
              else if c.admission = .quota then { k with discardedQuota := k.discardedQuota + 1 }
              else if c.admission = .pool then { k with discardedPool := k.discardedPool + 1 }
              else if outcome = .truncated ∨ outcome = .overlong then
                { k with discardedErrored := k.discardedErrored + 1 }
              else if outcome = .badCheck then
                if cl.config.errorPolicy = .discard then { k with discardedErrored := k.discardedErrored + 1 }
                else { k with admitted := k.admitted + 1, erroredPassed := k.erroredPassed + 1 }
              else { k with admitted := k.admitted + 1 } }

/-- The end event of a frame with a header event, whatever its class, part by part in the order of the model (assumption
log 10). It is counted: a classified frame in its slot (R37, `EndEventFixesOutcomeAndFate`), any other in truncated where
it is cut short and of no class but MALFORMED and OWN-RETURNED (R18). Its reservation is completed or given back
(`ReservationsAreCompletedOrGivenBack`). A GOOD TIME-REFERENCE frame with no TIME-SET in between is used by the clock with
the master time of its first six payload bytes (R60). The trap ends its copy (R171). The reception is over, and its slot,
where it is RETIRING and holds no frame, becomes VACANT with RETIRED (R28). A GOOD request's payload goes to the Agent last
(R16): with fewer than four bytes it is dropped and counted, else it is a request record, which goes through intake, and
a READY Agent runs (R134). -/
def Obligations.EndEventTakesItsPartsInOrder : Prop :=
  (∀ (s : State) (bytes : List Byte) (c : Context) (early : Bool), s.pins.resetN = true → s.link = .up →
     s.reception = some ⟨bytes, some c⟩ →
     let o := endOutcome c bytes early
     let counted :=
       match c.classified with
       | some _ => countEnd c o s
       | none =>
         if (o = .truncated ∨ o = .overlong) ∧ c.cls ≠ .malformed ∧ c.cls ≠ .ownReturned then
           { s with counters := { s.counters with truncated := s.counters.truncated + 1 } }
         else s
     let stored :=
       match c.reservation with
       | some d => endReservation c o d counted
       | none => counted
     let payload := (bytes.drop 14).take c.payloadLength.toNat
     let timed :=
       if c.cls = .timeReference ∧ o = .good ∧ c.timeSet = false then
         match masterTime payload with
         | some time => useTimeFrame time c.tag c.arrival stored
         | none => stored
       else stored
     let ended := { endCapture c o bytes.length timed with reception := none }
     let closed :=
       match c.classified with
       | none => ended
       | some cl =>
         let e := ended.entry cl.slot
         if e.state = .retiring ∧ e.held = 0 then
           raise .retired (some cl.slot) e.config.tag e.counters.received
             (ended.setEntry cl.slot { e with state := .vacant })
         else ended
     (early = false →
         exec .endDelimiter s =
           .next
             (settle
               (if o = .good ∧ c.cls = .localRequest then intakePayload false payload closed
               else if o = .good ∧ c.cls = .allGatesRequest then intakePayload true payload closed
               else closed))) ∧
       (early = true → exec .invalidCodeGroup s = .next (settle closed))) ∧
    (∀ (b5 b4 b3 b2 b1 b0 : Byte) (rest : List Byte),
      masterTime (b5 :: b4 :: b3 :: b2 :: b1 :: b0 :: rest) = some (b5 ++ b4 ++ b3 ++ b2 ++ b1 ++ b0)) ∧
    ∀ (s : State) (allGates : Bool),
      (∀ (m t1 t0 code : Byte) (operands : List Byte),
          intakePayload allGates (m :: t1 :: t0 :: code :: operands) s =
            agentRun (intake ⟨m, t1 ++ t0, code, operands, allGates⟩ s)) ∧
        ∀ payload : List Byte, payload.length < 4 →
          intakePayload allGates payload s =
            { s with counters := { s.counters with requestsDropped := s.counters.requestsDropped + 1 } }

/-- The Capture Trap at a header event (R169): ARMED, or HELD under CONTINUOUS, it considers the frame, which matches by
tag, kind and condition as met so far (GAP: verdict GAP or RESTART; LATE: the LATE flag or outcome LATE; ANY and ERRORED:
every frame); a frame that matches starts a capture of the bytes received, and one that does not changes nothing. At the
end event of the frame it copies (R171): under ERRORED a GOOD frame is dropped and the trap is ARMED; else the trap is
HELD with the capture record and the next generation, and ONE-SHOT raises TRAP-FILLED with slot "none", the frame's tag,
the generation and the received length. -/
def Obligations.TrapCapturesTheMatchingFrame : Prop :=
  (∀ (c : Context) (bytes : List Byte) (s : State), bytes.length ≤ 1088 →
     offerTrap c bytes s =
       if (s.trap.state = .armed ∨ s.trap.state = .held ∧ s.trap.mode = .continuous) ∧
           (s.trap.filterTag = none ∨ s.trap.filterTag = some c.tag) ∧
           (s.trap.filterKind = none ∨ s.trap.filterKind = some c.kind) ∧
           (s.trap.condition = .gap → (∃ d, c.verdict = .gap d) ∨ c.verdict = .restart) ∧
           (s.trap.condition = .late → c.stampFlags.late = true ∨ c.admission = .late) then
         { s with trap := { s.trap with state := .filling, buffer := bytes, record := none } }
       else s) ∧
    ∀ (c : Context) (o : EndOutcome) (received : Nat) (s : State),
      (s.trap.state ≠ .filling → endCapture c o received s = s) ∧
        (s.trap.state = .filling → s.trap.condition = .errored → o = .good →
          endCapture c o received s = { s with trap := { s.trap with state := .armed, buffer := [], record := none } }) ∧
        (s.trap.state = .filling → s.trap.condition ≠ .errored ∨ o ≠ .good →
          let held :=
            { s with
              trap :=
                { s.trap with
                  state := .held
                  record :=
                    some
                      { outcome := o
                        receivedLength := min received 65535
                        keptLength := s.trap.buffer.length
                        arrival := c.arrival
                        cls := c.cls
                        slot := c.classified.map (·.slot)
                        verdict := c.verdict
                        admission := c.admission
                        stampFlags := c.stampFlags
                        flushed := c.flushed }
                  generation := s.trap.generation + 1 } }
          endCapture c o received s =
            if s.trap.mode = .oneShot then
              raise .trapFilled none c.tag ((s.trap.generation + 1) ++ BitVec.ofNat 16 (min received 65535)) held
            else held)

/-! ### Sequence continuity (R44 to R50) -/

/-- The verdict and the continuity fields after it, by mode, expectation, distance and behind run (R44 to R50). GAP and
RESTART at the header event (R47, R49): gap-frames grows by the distance or restarts by one, the notice is raised with
its detail, the stamp flag is recorded, and nothing else of the slot changes but the continuity fields and the last
arrival time (R31). UNCHECKED, IN-ORDER and BEHIND (R46, R48, R50): the slot takes the last arrival time and its
continuity fields, and keeps every counter; no notice is raised and no stamp flag is set. FIRST is
`FirstFrameSynchronisesTheStream`. -/
def Obligations.ContinuityVerdictsAndTheirReports : Prop :=
  (∀ (expected : Option (BitVec 16)) (e q : BitVec 16) (run : Fin 4),
     judge .ignore expected run q = ⟨.unchecked, none, 0⟩ ∧
       judge .check none run q = ⟨.first, some (q + 1), 0⟩ ∧
       (q = e → judge .check (some e) run q = ⟨.inOrder, some (q + 1), 0⟩) ∧
       ((q - e).toNat ∈ Finset.Icc 1 32767 → judge .check (some e) run q = ⟨.gap (q - e), some (q + 1), 0⟩) ∧
       (32768 ≤ (q - e).toNat → run ≠ 3 → judge .check (some e) run q = ⟨.behind, some e, run + 1⟩) ∧
       (32768 ≤ (q - e).toNat → run = 3 → judge .check (some e) run q = ⟨.restart, some (q + 1), 0⟩)) ∧
    (∀ (k : Slot) (data : List Byte) (s : State) (c : Context) (e : BitVec 16),
      (s.entry k).config.continuity = .check → (s.entry k).expected = some e → 1 ≤ (c.sequence - e).toNat →
      ((c.sequence - e).toNat ≤ 32767 ∨ (s.entry k).behindRun = 3) →
        let gap := decide ((c.sequence - e).toNat ≤ 32767)
        let counts := (s.entry k).counters
        headerClassified k data ⟨s, c⟩ =
          admitStream ⟨k, (s.entry k).state, (s.entry k).config⟩ data
            ⟨raise (if gap then .gap else .restart) (some k) c.tag
                ((if gap then c.sequence - e else e) ++ c.sequence)
                (s.setEntry k
                  { s.entry k with
                    lastArrival := some c.arrival
                    expected := some (c.sequence + 1)
                    behindRun := 0
                    counters :=
                      if gap then { counts with gapFrames := counts.gapFrames + BitVec.ofNat 32 (c.sequence - e).toNat }
                      else { counts with restarts := counts.restarts + 1 } }),
              { c with
                classified := some ⟨k, (s.entry k).state, (s.entry k).config⟩
                verdict := if gap then .gap (c.sequence - e) else .restart
                stampFlags := ⟨gap, !gap, false, false, false, false⟩ }⟩) ∧
    ∀ (k : Slot) (data : List Byte) (s : State) (c : Context),
      let silent := fun (verdict : Verdict) (expected : Option (BitVec 16)) (run : Fin 4) =>
        headerClassified k data ⟨s, c⟩ =
          admitStream ⟨k, (s.entry k).state, (s.entry k).config⟩ data
            ⟨s.setEntry k
                { s.entry k with
                  lastArrival := some c.arrival
                  expected := expected
                  behindRun := run },
              { c with
                classified := some ⟨k, (s.entry k).state, (s.entry k).config⟩
                verdict := verdict
                stampFlags := ⟨false, false, false, false, false, false⟩ }⟩
      ((s.entry k).config.continuity = .ignore → silent .unchecked none 0) ∧
        ((s.entry k).config.continuity = .check → (s.entry k).expected = some c.sequence →
          silent .inOrder (some (c.sequence + 1)) 0) ∧
        ∀ e, (s.entry k).config.continuity = .check → (s.entry k).expected = some e →
          32768 ≤ (c.sequence - e).toNat → (s.entry k).behindRun ≠ 3 →
          silent .behind (some e) ((s.entry k).behindRun + 1)

/-- A frame judged under CHECK while the expected sequence is absent (R45): verdict FIRST, expectation S + 1, behind run
0; its slot keeps every counter, no notice is raised, no stamp flag is set, and Admission takes it as it takes an
IN-ORDER frame. -/
def Obligations.FirstFrameSynchronisesTheStream : Prop :=
  ∀ (k : Slot) (data : List Byte) (s : State) (c : Context),
    (s.entry k).config.continuity = .check → (s.entry k).expected = none →
      headerClassified k data ⟨s, c⟩ =
        admitStream ⟨k, (s.entry k).state, (s.entry k).config⟩ data
          ⟨s.setEntry k
              { s.entry k with
                lastArrival := some c.arrival
                expected := some (c.sequence + 1)
                behindRun := 0 },
            { c with
              classified := some ⟨k, (s.entry k).state, (s.entry k).config⟩
              verdict := .first
              stampFlags := ⟨false, false, false, false, false, false⟩ }⟩ ∧
      ∀ (cl : Classified) (u : State) (x : Context),
        (admitStream cl data ⟨u, { x with verdict := .first }⟩).state =
          (admitStream cl data ⟨u, { x with verdict := .inOrder }⟩).state

/-! ### Admission (R79 to R87) -/

/-- Steps 0 and 1 (R79, R80): a frame of a MUTED entry is discarded at once whatever its verdict, a BEHIND frame of an
ACTIVE one next, with nothing in the gate changed; every other verdict goes on to the release time; the checker's
stamp flags GAP-BEFORE and RESTART stay. -/
def Obligations.MutedAndBehindFramesAreDiscardedFirst : Prop :=
  ∀ (cl : Classified) (data : List Byte) (s : State) (c : Context),
    (cl.state = .muted → admitStream cl data ⟨s, c⟩ = ⟨s, { c with admission := .muted }⟩) ∧
      (cl.state ≠ .muted → c.verdict = .behind →
        admitStream cl data ⟨s, c⟩ = ⟨s, { c with admission := .behind }⟩) ∧
      (cl.state ≠ .muted → c.verdict ≠ .behind → admitStream cl data ⟨s, c⟩ = admitRelease cl data ⟨s, c⟩) ∧
      (admitStream cl data ⟨s, c⟩).context.stampFlags.gapBefore = c.stampFlags.gapBefore ∧
      (admitStream cl data ⟨s, c⟩).context.stampFlags.restart = c.stampFlags.restart

/-- Step 2: the release time by timing mode, origin time and clock state, with the late and too-early tests against the
arrival time (R81, R82). A late or too-early discard ends admission with nothing in the gate changed, the HOLDOVER flag is
recorded while the clock is in HOLDOVER, LATE and UNALIGNED as decided, and a release time goes on to step 3. Then steps 3
to 5 in order (R83 to R86): every routed lane that is BLOCKED counts its loss first; with no lane left the frame is kept
without storage; at the quota QUOTA is raised; without a descriptor or cells POOL-EXHAUSTED is raised; else a FREE
descriptor is RESERVED with the first cells of the free list (which cells: the model's choice, assumption log 9), the
held count and the admission count rise, and a skipped stamp is counted. -/
def Obligations.ReleaseTimeThenLanesQuotaAndPool : Prop :=
  (∀ (config : EntryConfig) (arrival o : Time) (clock : ClockState),
     let hold := BitVec.ofNat 48 config.holdOffset.toNat
     (config.timing = .pass → ∀ origin, decideRelease config arrival origin clock = .release arrival false false) ∧
       (config.timing = .arrivalDelayed → ∀ origin,
         decideRelease config arrival origin clock = .release (arrival + hold) false false) ∧
       (config.timing = .originAligned → clock = .free → ∀ origin,
         decideRelease config arrival origin clock = .release arrival false true) ∧
       (config.timing = .originAligned → clock ≠ .free →
         decideRelease config arrival none clock = .release (arrival + hold) false true ∧
           decideRelease config arrival (some o) clock =
             if (arrival - (o + hold)).toNat < 2 ^ 47 then
               if config.latePolicy = .discard then .late else .release arrival true false
             else if 134217728 ≤ (o + hold - arrival).toNat then .tooEarly
             else .release (o + hold) false false)) ∧
    (∀ (cl : Classified) (data : List Byte) (s : State) (c : Context),
      let f := c.stampFlags
      let marked := fun (late unaligned : Bool) =>
        { c with
          stampFlags :=
            ⟨f.gapBefore, f.restart, f.late || late, f.unaligned || unaligned,
              f.holdover || decide (s.clock.state = .holdover), f.errored⟩ }
      admitRelease cl data ⟨s, c⟩ =
        match decideRelease cl.config c.arrival c.origin s.clock.state with
        | .late => ⟨s, { marked false false with admission := .late }⟩
        | .tooEarly => ⟨s, { marked false false with admission := .tooEarly }⟩
        | .release time late unaligned => admitLanes cl time data ⟨s, marked late unaligned⟩) ∧
    ∀ (cl : Classified) (release : Time) (data : List Byte) (s : State) (c : Context),
      let lost := fun (l : Lane) (u : State) =>
        if cl.config.lanes.has l = true ∧ (u.lane l).state = .blocked then
          u.setEntry cl.slot ((u.entry cl.slot).laneLost l)
        else u
      let u := lost .b (lost .a s)
      let lanes : LaneSet :=
        ⟨cl.config.lanes.a && !decide (s.laneA.state = .blocked), cl.config.lanes.b && !decide (s.laneB.state = .blocked)⟩
      let stamps := (c.flags.extractLsb' 0 3).toNat
      let stored := if cl.config.stamping = true ∧ stamps ≤ 3 then c.declared + 8 else c.declared
      let cells := (stored + 63) / 64
      let held := (u.entry cl.slot).held
      (lanes = ⟨false, false⟩ →
          admitLanes cl release data ⟨s, c⟩ = ⟨u, { c with admission := .keptWithoutStorage }⟩) ∧
        (lanes ≠ ⟨false, false⟩ → cl.config.holdQuota.toNat ≤ held →
          admitLanes cl release data ⟨s, c⟩ =
            ⟨raise .quota (some cl.slot) c.tag
                (BitVec.ofNat 16 cl.config.holdQuota.toNat ++ BitVec.ofNat 16 held) u,
              { c with admission := .quota }⟩) ∧
        (lanes ≠ ⟨false, false⟩ → held < cl.config.holdQuota.toNat →
          s.freeDescs = 0 ∨ s.pool.freeCells.length < cells →
          admitLanes cl release data ⟨s, c⟩ =
            ⟨raise .poolExhausted (some cl.slot) c.tag
                (BitVec.ofNat 16 s.freeDescs ++ BitVec.ofNat 16 s.pool.freeCells.length) u,
              { c with admission := .pool }⟩) ∧
        (lanes ≠ ⟨false, false⟩ → held < cl.config.holdQuota.toNat → s.freeDescs ≠ 0 →
          cells ≤ s.pool.freeCells.length →
          ∃ d, s.desc d = none ∧
            admitLanes cl release data ⟨s, c⟩ =
              ⟨({ u with
                    pool := ⟨s.pool.descs, s.pool.freeCells.drop cells, s.pool.admissionCount + 1⟩
                    counters :=
                      if cl.config.stamping = true ∧ stamps = 4 then
                        { s.counters with stampsSkipped := s.counters.stampsSkipped + 1 }
                      else s.counters }.setDesc d
                    (some
                      { condition := .reserved
                        stream := .slot cl.slot
                        order := s.pool.admissionCount
                        arrival := c.arrival
                        release := release
                        ready := none
                        remaining := lanes
                        cells := s.pool.freeCells.take cells
                        frameLength := stored
                        stampFlags := c.stampFlags
                        stamped := false
                        data := data })).setEntry cl.slot { u.entry cl.slot with held := held + 1 },
                { c with admission := .reserved, reservation := some d }⟩)

/-- A frame handled as transit (R87): reserved for lane A while lane A is not BLOCKED, fewer than 32 transit descriptors
are in use and the pools have room for its declared length; else dropped and counted. Which cells the reservation takes,
the first of the free list, is the model's choice (assumption log 9); it takes some FREE descriptor. -/
def Obligations.TransitAdmissionUnderItsThreeConditions : Prop :=
  ∀ (data : List Byte) (s : State) (c : Context),
    let cells := (c.declared + 63) / 64
    let room :=
      s.laneA.state ≠ .blocked ∧ s.transitCount < 32 ∧ s.freeDescs ≠ 0 ∧ cells ≤ s.pool.freeCells.length
    (¬room →
        admitTransit data ⟨s, c⟩ =
          ⟨{ s with counters := { s.counters with transitDropped := s.counters.transitDropped + 1 } },
            { c with admission := .transitDropped }⟩) ∧
      (room →
        ∃ d, s.desc d = none ∧
          admitTransit data ⟨s, c⟩ =
            ⟨{ s with
                pool := ⟨s.pool.descs, s.pool.freeCells.drop cells, s.pool.admissionCount + 1⟩ }.setDesc d
                (some
                  { condition := .reserved
                    stream := .transit
                    order := s.pool.admissionCount
                    arrival := c.arrival
                    release := c.arrival
                    ready := none
                    remaining := ⟨true, false⟩
                    cells := s.pool.freeCells.take cells
                    frameLength := c.declared
                    stampFlags := ⟨false, false, false, false, false, false⟩
                    stamped := false
                    data := data }),
              { c with admission := .transitReserved, reservation := some d }⟩)

/-! ### Completion and storage (R28, R34, R75, R88 to R96, R175) -/

/-- What the end event does with each reservation (R88, R90, R91): a stream frame is completed when GOOD, when
BAD-CHECK by the error policy, and given back when cut short; a transit frame is completed when GOOD or BAD-CHECK,
unchanged and ready now, at the tail of the transit queue, or dropped where lane A is BLOCKED, and given back when cut
short. A completed stream frame (R88 to R90) carries this gate's stamp of arrival time, gate number and flags (bit by
bit as in section 11.1) after the existing stamps, a stamp count raised by one and a new check word, or, unstamped,
the bytes as received; it is HELD, ready at the later of release time and now, and meets each lane of its remaining
set. -/
def Obligations.ReservationsAreCompletedOrGivenBack : Prop :=
  (∀ (c : Context) (d : DescNo) (s : State) (r : Descriptor), s.desc d = some r →
     (∀ cl, c.classified = some cl →
         endReservation c .good d s = completeStream cl c.flags false d s ∧
           endReservation c .badCheck d s =
             (if cl.config.errorPolicy = .passMarked then completeStream cl c.flags true d s else freeDesc d s)) ∧
       endReservation c .truncated d s = freeDesc d s ∧
       endReservation c .overlong d s = freeDesc d s ∧
       (c.classified = none → ∀ o, o = .good ∨ o = .badCheck →
         let held := s.setDesc d
           (some { r with condition := .held, ready := some s.clock.time, frameLength := r.data.length })
         endReservation c o d s =
           if s.laneA.state = .blocked then dropLane .a d held
           else { held with transitQueue := s.transitQueue ++ [d] })) ∧
    ∀ (cl : Classified) (flags : Byte) (errored : Bool) (d : DescNo) (s : State) (r : Descriptor), s.desc d = some r →
      let stamp := decide (cl.config.stamping = true ∧ (flags.extractLsb' 0 3).toNat ≤ 3)
      let marks := if stamp && errored then { r.stampFlags with errored := true } else r.stampFlags
      let flag : Bool → Byte → Byte := fun b value => if b then value else 0
      let marksByte : Byte :=
        flag marks.gapBefore 1 + flag marks.restart 2 + flag marks.late 4 + flag marks.unaligned 8 +
          flag marks.holdover 16 + flag marks.errored 32
      let raised := fun (b : Byte) => (b &&& 0xF8) ||| BitVec.ofNat 8 ((b.extractLsb' 0 3).toNat + 1)
      let body := (r.data.take (r.data.length - 4)).modify 1 raised
      let stored := body ++ bytes48 r.arrival ++ [s.gateNumber, marksByte]
      let data := if stamp then stored ++ bytes32 (checkWord stored) else r.data
      let held : Descriptor :=
        { r with
          condition := .held
          ready := some (if (s.clock.time - r.release).toNat < 2 ^ 47 then s.clock.time else r.release)
          stampFlags := marks
          stamped := stamp
          data := data
          frameLength := data.length }
      let onLane := fun (l : Lane) (u : State) =>
        if r.remaining.has l = false then u
        else if (u.lane l).state = .blocked then dropLane l d u
        else u.setLane l { u.lane l with releaseQueue := insertRelease u d (u.lane l).releaseQueue }
      completeStream cl flags errored d s = onLane .b (onLane .a (s.setDesc d (some held)))

/-- A release queue stays ordered by release time with ties by admission order (R96): where the times of the queue and
of the new descriptor lie within half the count of 2^48 (R96), and the order numbers within half of their 2^32 (R78),
inserting keeps the queue sorted and adds exactly the new descriptor. -/
def Obligations.InsertionKeepsTheReleaseOrder : Prop :=
  ∀ (s : State) (base : Time) (order : BitVec 32) (d : DescNo) (queue : List DescNo) (key : DescNo → Nat × Nat),
    (∀ x ∈ d :: queue, ∃ r, s.desc x = some r ∧ key x = ((r.release - base).toNat, (r.order - order).toNat) ∧
        (key x).1 < 2 ^ 47 ∧ (key x).2 < 2 ^ 31) →
    queue.Pairwise (fun x y => (key x).1 < (key y).1 ∨ (key x).1 = (key y).1 ∧ (key x).2 < (key y).2) →
    (∀ x ∈ queue, key x ≠ key d) →
      (insertRelease s d queue).Perm (d :: queue) ∧
        (insertRelease s d queue).Pairwise
          (fun x y => (key x).1 < (key y).1 ∨ (key x).1 = (key y).1 ∧ (key x).2 < (key y).2)

/-- The check word (R175): a 32-bit register starts at 0xFFFFFFFF; for each bit of each byte, most significant first, it
shifts left by one place, and takes the polynomial 0x04C11DB7 by exclusive-or where the bit shifted out differs from the
message bit; the result is taken by exclusive-or with 0xFFFFFFFF. A frame the gate completes with its check word is judged
correct by the test a receiver makes (R11). A lane's marked copy (R103) of a stamped frame of at least five bytes: the
byte before the check word has bit 6 set, the check word is correct over the copy, the length and every other byte are the
stored frame's. -/
def Obligations.CopiesCarryCorrectCheckWords : Prop :=
  (∀ bytes : List Byte,
     let bits := bytes.flatMap fun b => (List.range 8).map fun i => b.getLsbD (7 - i)
     checkWord bytes =
       (bits.foldl
           (fun (register : BitVec 32) bit =>
             if register.getLsbD 31 ≠ bit then (register <<< 1) ^^^ 0x04C11DB7 else register <<< 1)
           0xFFFFFFFF) ^^^
         0xFFFFFFFF) ∧
    (∀ bytes : List Byte, checkWordCorrect (withCheckWord bytes) = true) ∧
    ∀ frame : List Byte, 5 ≤ frame.length →
      (markDiscontinuity frame).length = frame.length ∧ checkWordCorrect (markDiscontinuity frame) = true ∧
        (∀ i, i < frame.length - 5 → (markDiscontinuity frame)[i]? = frame[i]?) ∧
        (markDiscontinuity frame)[frame.length - 5]? = frame[frame.length - 5]?.map (fun b => b ||| 0x40)

/-- A lane that leaves a descriptor's remaining set frees it when no lane is left, and else only leaves the set (R104). A
frame lost to the lane is counted in lane-lost with the stream's discontinuity flag set, or in transit dropped (R36,
R109). A freed descriptor is FREE, its cells join the free list at once (at its tail: the model's choice, assumption
log 9), and its slot's held count falls by one; a RETIRING slot that then holds none and is not engaged becomes VACANT
with RETIRED, which carries its tag and received counter, and keeps everything else; the other slots, descriptors and
the lanes stay (R28, R34, R75). -/
def Obligations.DescriptorsLeaveLanesAndAreFreed : Prop :=
  (∀ (l : Lane) (d : DescNo) (s : State) (r : Descriptor), s.desc d = some r →
     leaveLane l d s =
         (if r.remaining.without l = ⟨false, false⟩ then freeDesc d s
         else s.setDesc d (some { r with remaining := r.remaining.without l })) ∧
       (r.stream = .transit →
         dropLane l d s =
           leaveLane l d { s with counters := { s.counters with transitDropped := s.counters.transitDropped + 1 } }) ∧
       ∀ k, r.stream = .slot k → ∃ e, dropLane l d s = leaveLane l d (s.setEntry k e) ∧
         e.discontinuity l = true ∧
         (match l with
         | .a => e = { s.entry k with
             discontinuityA := true
             counters := { (s.entry k).counters with laneLostA := (s.entry k).counters.laneLostA + 1 } }
         | .b => e = { s.entry k with
             discontinuityB := true
             counters := { (s.entry k).counters with laneLostB := (s.entry k).counters.laneLostB + 1 } })) ∧
    ∀ (d : DescNo) (s : State) (r : Descriptor), s.desc d = some r →
      let pool : Pool :=
        ⟨s.pool.descs.set d.val none d.isLt, s.pool.freeCells ++ r.cells, s.pool.admissionCount⟩
      (r.stream = .transit → freeDesc d s = { s with pool := pool }) ∧
        ∀ k, r.stream = .slot k →
          let e : Entry := { s.entry k with held := (s.entry k).held - 1 }
          let t : State := { s with pool := pool }.setEntry k e
          freeDesc d s =
            if e.state = .retiring ∧ e.held = 0 ∧ s.engaged ≠ some k then
              raise .retired (some k) e.config.tag e.counters.received (t.setEntry k { e with state := .vacant })
            else t

/-- FLUSH (R35, R54, R93, R94, R148), answered OK; the reply is created after the stall timers are judged (the model's
reading, assumption log 15), and they are judged after the RETIRED notices are raised (the model's choice, assumption
log 37). The frame in reception is marked and has no reservation, and the descriptor it had is FREE. Every HELD
descriptor leaves each lane of its remaining set that is not sending it, and with no lane left is FREE; so where the
frame's alone is RESERVED, every descriptor left is being sent. A stream frame counts lane-lost and sets the
discontinuity flag for each lane left, a transit frame counts in transit dropped. Each slot's held count falls by its
descriptors freed, a RETIRING slot that then holds none and is not engaged is VACANT with RETIRED, every expected
sequence is absent and every behind run 0. The cells of freed descriptors are free, the queues are empty, and
everything else stays. In which order the RETIRED notices enter is left open here (the model's choice, assumption log
30). -/
def Obligations.FlushLeavesOnlyWhatIsBeingSent : Prop :=
  (∀ (m : Sender) (s : State), Accepts m s →
      exec (.flush m) s = .next (settle (answered m 0x24 .ok [] true (flushDatapath (taken m s))))) ∧
    ∀ s : State,
      let t := flushDatapath s
      let reserved := s.context.bind (·.reservation)
      let leaves := fun (d : DescNo) (r : Descriptor) (l : Lane) =>
        reserved ≠ some d ∧ r.condition = .held ∧ r.remaining.has l = true ∧ sendingOn s d l = false
      let after := fun (d : DescNo) (r : Descriptor) =>
        let kept : LaneSet := ⟨r.remaining.a && sendingOn s d .a, r.remaining.b && sendingOn s d .b⟩
        if reserved = some d then none
        else if r.condition = .reserved then some r
        else if kept = ⟨false, false⟩ ∧ r.remaining ≠ ⟨false, false⟩ then none
        else some { r with remaining := kept }
      let such := fun (p : DescNo → Descriptor → Bool) =>
        allDescs.filter fun d =>
          match s.desc d with
          | some r => p d r
          | none => false
      let lost := fun (x : Stream) (l : Lane) => (such fun d r => decide (r.stream = x ∧ leaves d r l)).length
      let freed := fun (x : Stream) => (such fun d r => decide (r.stream = x ∧ after d r = none)).length
      let transit := (such fun d r => decide (reserved = some d ∧ r.stream = .transit)).length
      (∀ d, t.desc d = (s.desc d).bind (after d)) ∧
        ((∀ d r, s.desc d = some r → r.condition = .reserved → reserved = some d) →
          (∀ d r, s.desc d = some r → r.remaining ≠ ⟨false, false⟩) →
          ∀ d r, t.desc d = some r → ∃ l snd, (s.lane l).sending = some snd ∧ snd.item = .descriptor d) ∧
        (∀ k,
          t.entry k =
            { entryAfterDrops (lost (.slot k) .a) (lost (.slot k) .b) (freed (.slot k)) (decide (s.engaged = some k))
                (s.entry k) with
              expected := none
              behindRun := 0 }) ∧
        t.pool.freeCells.Perm
          (s.pool.freeCells ++
            allDescs.flatMap fun d =>
              match s.desc d with
              | some r => if after d r = none then r.cells else []
              | none => []) ∧
        (∃ retired : List Slot, retired.Nodup ∧
          (∀ k, k ∈ retired ↔ (s.entry k).state = .retiring ∧ (t.entry k).state = .vacant) ∧
          t.notices = (raiseRetired retired s).notices ∧
          t.counters =
            { (raiseRetired retired s).counters with
              transitDropped :=
                s.counters.transitDropped + BitVec.ofNat 32 (transit + lost .transit .a + lost .transit .b) }) ∧
        t =
          { s with
            reception :=
              s.reception.map fun x =>
                { x with context := x.context.map fun c => { c with flushed := true, reservation := none } }
            table := t.table
            pool := ⟨t.pool.descs, t.pool.freeCells, s.pool.admissionCount⟩
            laneA := { s.laneA with releaseQueue := [] }
            laneB := { s.laneB with releaseQueue := [] }
            transitQueue := []
            notices := t.notices
            counters := t.counters }

/-! ### Lanes (R96 to R113) -/

/-- A lane's stall timer runs exactly while the lane is PAUSED and has a candidate ready, from zero where it was
stopped; judging it changes nothing else (R106). At which moments of a command it is judged is the model's choice
(assumption log 37). A lane has a candidate ready exactly in the cases of R98 and R100: a reply on the reply lane, a
DUE record on the notice lane while it is not BLOCKED, the head of lane A's transit queue, the head of the release
queue once its release time has come. -/
def Obligations.StallTimersFollowCandidates : Prop :=
  (∀ s : State,
     let judged := fun (l : Lane) (u : LaneUnit) =>
       if u.state = .paused ∧ hasCandidate l s = true then some (u.stall.getD 0) else none
     settle s =
       { s with
         laneA := { s.laneA with stall := judged .a s.laneA }
         laneB := { s.laneB with stall := judged .b s.laneB } }) ∧
    ∀ (l : Lane) (s : State),
      hasCandidate l s = true ↔
        (s.params.replyLane = l ∧ s.agent.replies ≠ []) ∨
          (s.params.noticeLane = l ∧ (s.lane l).state ≠ .blocked ∧ ∃ n ∈ s.notices.queue, n.condition = .due) ∨
          (l = .a ∧ ∃ d q r, s.transitQueue = d :: q ∧ s.desc d = some r) ∨
          ∃ d q r, (s.lane l).releaseQueue = d :: q ∧ s.desc d = some r ∧
            (s.clock.time - r.release).toNat < 2 ^ 47

/-- A lane's candidates and the arbiter's choice. The Notice Unit offers, while the notice lane is not BLOCKED, the DUE
record whose next transmission time came longest ago, the earlier in the queue of two with one time (R160, R162). The
candidates are the gate frame of R98 (the oldest reply on the reply lane; else on the notice lane the record offered), on
lane A the head of the transit queue, and the head of the release queue once its release time has come, each with the
ready time of R100. The arbiter takes a candidate whose ready time came longest ago, one still ahead counting as now;
among equals the first of gate frame, transit frame, data frame (R100, R101). -/
def Obligations.ArbiterTakesTheOldestCandidate : Prop :=
  ∀ (l : Lane) (s : State),
    let age := fun (x : Time) => if (s.clock.time - x).toNat < 2 ^ 47 then (s.clock.time - x).toNat else 0
    (∀ n, dueNotice s = some n ↔
        (s.lane s.params.noticeLane).state ≠ .blocked ∧
          ∃ before after,
            s.notices.queue.filter (fun x => decide (x.condition = .due)) = before ++ n :: after ∧
              (∀ x ∈ before, age x.nextTransmission < age n.nextTransmission) ∧
              ∀ x ∈ after, age x.nextTransmission ≤ age n.nextTransmission) ∧
      candidates l s =
        (let offered : List Candidate :=
          if s.params.noticeLane = l then
            (dueNotice s).toList.map fun n => ⟨.notice n, n.nextTransmission⟩
          else []
        (match s.agent.replies with
          | r :: _ => if s.params.replyLane = l then [⟨.reply r, r.created⟩] else offered
          | [] => offered) ++
          (match l, s.transitQueue with
            | .a, d :: _ =>
              match s.desc d with
              | some r => [⟨.transit d, r.ready.getD r.arrival⟩]
              | none => []
            | _, _ => []) ++
          (match (s.lane l).releaseQueue with
            | d :: _ =>
              match s.desc d with
              | some r =>
                if (s.clock.time - r.release).toNat < 2 ^ 47 then [⟨.data d, r.ready.getD r.release⟩] else []
              | none => []
            | [] => [])) ∧
      ∀ c, arbiterChoice l s = some c ↔
        ∃ before after, candidates l s = before ++ c :: after ∧ (∀ x ∈ before, age x.ready < age c.ready) ∧
          ∀ x ∈ after, age x.ready ≤ age c.ready

/-- LANE_SEND_START (R101 to R103, R144, R145, R160): only an IDLE lane with a candidate starts a send, of the
arbiter's choice. A reply and a notice take the own-frame sequence number; the reply leaves its queue, the record
stays and is IN-FLIGHT; a descriptor leaves the head of its queue and stays in use; a stream's discontinuity flag for
the lane is cleared and, where it was set and the frame is stamped, the copy is marked. A reply that leaves may give a
READY Agent room (`agentRun`, R137). The frame of a reply or notice (sections 11.1, 11.2, 11.4): header with the
gate's own source tag, payload, check word; the payload of a reply record, and of a notice record under the
destination in force (bits 1 to 7 of its flags byte 0: the model's choice, assumption log 36); the codes of the notice
classes and of the results are their places in the tables. A send is named by its record's notice sequence (the
model's choice, assumption log 28), and the row itself is assumption log 18. -/
def Obligations.SendsStartWithTheirFrames : Prop :=
  (∀ (l : Lane) (s : State), s.pins.resetN = true →
     let sends := fun (item : SendItem) (frame : List Byte) (u : State) =>
       u.setLane l { u.lane l with state := .sending, sending := some ⟨item, frame, 0⟩ }
     let numbered : State := { s with agent := { s.agent with ownSequence := s.agent.ownSequence + 1 } }
     ((s.lane l).state ≠ .idle ∨ candidates l s = [] → exec (.laneSendStart l) s = .next (settle (agentRun s))) ∧
       ∀ c, (s.lane l).state = .idle → arbiterChoice l s = some c →
         exec (.laneSendStart l) s =
           .next
             (settle
               (agentRun
                 (match c.source with
                 | .reply r =>
                   sends (.reply r)
                     (gateFrame 4 s.gateNumber s.agent.ownSequence r.created (replyPayload r))
                     { numbered with agent := { numbered.agent with replies := s.agent.replies.tail } }
                 | .notice n =>
                   sends (.notice n.sequence)
                     (gateFrame 5 s.gateNumber s.agent.ownSequence s.clock.time
                       (noticePayload s.params.noticeDestination n))
                     { numbered with
                       notices :=
                         { s.notices with
                           queue := s.notices.queue.map fun x =>
                             if x.sequence = n.sequence then { x with condition := .inFlight false } else x } }
                 | .transit d =>
                   match s.desc d with
                   | none => s
                   | some r =>
                     sends (.descriptor d) (r.data.take r.frameLength) { s with transitQueue := s.transitQueue.tail }
                 | .data d =>
                   match s.desc d with
                   | none => s
                   | some r =>
                     let u := s.setLane l { s.lane l with releaseQueue := (s.lane l).releaseQueue.tail }
                     let stored := r.data.take r.frameLength
                     match r.stream with
                     | .transit => sends (.descriptor d) stored u
                     | .slot k =>
                       sends (.descriptor d)
                         (if (s.entry k).discontinuity l && r.stamped then markDiscontinuity stored else stored)
                         (u.setEntry k ((s.entry k).clearDiscontinuity l)))))) ∧
    (∀ (kind gateNumber : Byte) (sequence : BitVec 16) (origin : Time) (payload : List Byte),
      let frame :=
        [kind, 0x80] ++ bytes16 (BitVec.ofNat 16 (0xF000 + gateNumber.toNat)) ++ bytes16 sequence ++
          bytes16 (BitVec.ofNat 16 payload.length) ++ bytes48 origin ++ payload
      gateFrame kind gateNumber sequence origin payload = frame ++ bytes32 (checkWord frame)) ∧
    (∀ r : Reply,
      replyPayload r =
        [r.manager] ++ bytes16 r.txn ++
          [r.code, resultByte r.result, (if r.duplicate then 1 else 0) + (if r.allGates then 2 else 0)] ++ r.data) ∧
    (∀ (destination : Byte) (n : Notice),
      noticePayload destination n =
        [destination] ++ bytes16 n.sequence ++
          [BitVec.ofNat 8 (noticeCode n.cls),
            match n.slot with
            | some k => BitVec.ofNat 8 k.val
            | none => 255] ++
          bytes16 n.tag ++ [BitVec.ofNat 8 n.count] ++ bytes48 n.firstTime ++ bytes48 n.lastTime ++
          bytes32 n.detail ++ [if n.lossBefore then 1 else 0, BitVec.ofNat 8 n.retriesLeft]) ∧
    [NoticeClass.gap, .restart, .quota, .poolExhausted, .unknownTag, .retired, .timeStep, .timeLost, .timeRestored,
        .laneBlocked, .laneOpen, .linkDown, .commitDone, .commitFailed, .stagingExpired, .trapFilled].map noticeCode =
      List.range' 1 16 ∧
    [Result.ok, .busy, .badRequest, .badValue, .readOnly, .ownedElsewhere, .frozen, .listFull, .empty, .notFound,
        .noTime, .pastTime, .notScheduled, .duplicateTag, .tagChange, .slotRetiring, .state, .paused,
        .trapBusy].map (fun r => (resultByte r).toNat) =
      List.range 19

/-- LANE_SEND_END (R104, R113, R161): the positive length of the send passes (assumption log 17); a descriptor leaves
the lane, a transit frame counted as forwarded; a notice is handed to its unit, found by its sequence (assumption log 28);
then the lane is BLOCKED from BLOCK-PENDING, else PAUSED or IDLE by its WAIT line. Then the end of a RESTART's reply is
judged (`RestartEndsWithItsReply`), and a READY Agent with room runs (R137). A lane that sends nothing has no send
end. -/
def Obligations.SendEndFinishesTheItemAndTheLane : Prop :=
  ∀ (l : Lane) (s : State), s.pins.resetN = true →
    ((s.lane l).sending = none → exec (.laneSendEnd l) s = .next (settle s)) ∧
      ∀ snd, (s.lane l).sending = some snd →
        let t := elapse (1 - snd.elapsed) s
        let u := t.setLane l { t.lane l with sending := none }
        let v :=
          match snd.item with
          | .reply _ => u
          | .notice n => noticeSendEnd n u
          | .descriptor d =>
            match s.desc d with
            | none => u
            | some r =>
              if r.stream = .transit then
                leaveLane l d
                  { u with counters := { u.counters with transitForwarded := u.counters.transitForwarded + 1 } }
              else leaveLane l d u
        exec (.laneSendEnd l) s =
          .next
            (settle
              (agentRun
                (restartCheck
                  (if (s.lane l).state = .blockPending then enterBlocked l .request v
                  else v.setLane l { v.lane l with state := if s.waitHigh l then .paused else .idle }))))

/-- Entry into BLOCKED (R109, R110), where the lane's queues hold descriptors in use, each once (`QueueLaw`, which
every step keeps): the lane is BLOCKED with empty queues and its stall timer stopped, the other lane stays. Every
descriptor that its queues held leaves the lane, and with no lane left is FREE, its cells free; the others are
untouched. Each stream frame dropped counts in its slot's lane-lost for this lane and sets its discontinuity flag;
each slot's held count falls by its descriptors freed, and a RETIRING slot that then holds none and is not engaged is
VACANT with RETIRED. Each transit frame dropped counts in transit dropped. LANE-BLOCKED is raised with lane, cause and
the number dropped, after the RETIRED notices (the model's reading, assumption log 12; their order among themselves is
left open here). A reply lane loses its replies, each counted in replies lost. -/
def Obligations.EnteringBlockedDropsTheQueues : Prop :=
  ∀ (l : Lane) (cause : BlockCause) (s : State), (laneQueues l s).Nodup →
    (∀ d ∈ laneQueues l s, ∃ r, s.desc d = some r) →
    let t := enterBlocked l cause s
    let dropped := laneQueues l s
    let lane : Byte := match l with
      | .a => 0
      | .b => 1
    let code : Byte := match cause with
      | .stall => 0
      | .request => 1
    let gone := fun (r : Descriptor) => decide (r.remaining.without l = ⟨false, false⟩)
    let such := fun (p : Descriptor → Bool) => (dropped.filter fun d => (s.desc d).any p).length
    let lost := fun (k : Slot) => such fun r => decide (r.stream = .slot k)
    let transitLost := BitVec.ofNat 32 (such fun r => decide (r.stream = .transit))
    t.lane l = { s.lane l with state := .blocked, releaseQueue := [], stall := none } ∧ laneQueues l t = [] ∧
      (∀ j, j ≠ l → t.lane j = s.lane j) ∧
      (∀ d,
        t.desc d =
          if d ∈ dropped then
            (s.desc d).bind fun r => if gone r then none else some { r with remaining := r.remaining.without l }
          else s.desc d) ∧
      (∀ k,
        t.entry k =
          entryAfterDrops (if l = .a then lost k else 0) (if l = .b then lost k else 0)
            (such fun r => decide (r.stream = .slot k) && gone r) (decide (s.engaged = some k)) (s.entry k)) ∧
      t.pool.freeCells.Perm
        (s.pool.freeCells ++
          dropped.flatMap fun d =>
            match s.desc d with
            | some r => if gone r then r.cells else []
            | none => []) ∧
      (∃ retired : List Slot, retired.Nodup ∧
        (∀ k, k ∈ retired ↔ (s.entry k).state = .retiring ∧ (t.entry k).state = .vacant) ∧
        let raised :=
          raise .laneBlocked none 0xFFFF (lane ++ code ++ BitVec.ofNat 16 dropped.length)
            (raiseRetired retired s)
        t.notices = raised.notices ∧
          t.counters =
            { raised.counters with
              transitDropped := s.counters.transitDropped + transitLost
              repliesLost :=
                if s.params.replyLane = l then
                  s.counters.repliesLost + BitVec.ofNat 32 s.agent.replies.length
                else s.counters.repliesLost }) ∧
      t =
        { s with
          table := t.table
          pool := ⟨t.pool.descs, t.pool.freeCells, s.pool.admissionCount⟩
          laneA := t.laneA
          laneB := t.laneB
          transitQueue := if l = .a then [] else s.transitQueue
          agent := if s.params.replyLane = l then { s.agent with replies := [] } else s.agent
          notices := t.notices
          counters := t.counters }

/-- WAIT (R105): an assertion makes an IDLE lane PAUSED, a release makes a PAUSED lane IDLE; in every other state only
the level changes. STALL_TIMER_EXPIRY (R106): the command lets the rest of the limit pass (the model's choice, assumption
log 4; periods of 8 ns, assumption log 2) and the PAUSED lane is BLOCKED with cause STALL; then the end of a RESTART's
reply is judged (`RestartEndsWithItsReply`), and a READY Agent to which the discarded replies give room runs (R137,
R143). Where the discard of the RESTART's reply ends a RESTART, the hard reset follows (R152). -/
def Obligations.WaitPausesAndStallBlocks : Prop :=
  (∀ (l : Lane) (s : State), s.pins.resetN = true →
     let line := fun (level : Bool) =>
       match l with
       | .a => { s with pins := { s.pins with waitA := level } }
       | .b => { s with pins := { s.pins with waitB := level } }
     exec (.waitAsserted l) s =
         .next
           (settle
             (if (s.lane l).state = .idle then (line true).setLane l { s.lane l with state := .paused } else line true)) ∧
       exec (.waitReleased l) s =
         .next
           (settle
             (if (s.lane l).state = .paused then (line false).setLane l { s.lane l with state := .idle }
             else line false))) ∧
    ∀ (l : Lane) (s : State) (e : Nat), s.pins.resetN = true →
      (s.lane l).state = .paused → (s.lane l).stall = some e →
      let t := enterBlocked l .stall (elapse (s.params.stallLimit * 125 - e) s)
      exec (.stallTimerExpiry l) s = .next (settle (agentRun (restartCheck t))) ∧
        (s.agent.state = .restarting → s.params.replyLane = l → sendingRestart s.laneA = false →
          sendingRestart s.laneB = false → exec (.stallTimerExpiry l) s = .next (settle (hardReset s)))

/-- RELEASE_TIME_COMING: just so much time passes that the head's release time has come, so that the head is a
candidate (R100, R106). -/
def Obligations.ReleaseTimeComingMakesTheHeadACandidate : Prop :=
  ∀ (l : Lane) (s : State) (d : DescNo) (q : List DescNo) (r : Descriptor), s.pins.resetN = true →
    (s.lane l).releaseQueue = d :: q → s.desc d = some r → s.clock.slew < 4096 →
    (r.release - s.clock.time).toNat < 2 ^ 46 →
    ∃ n, exec (.releaseTimeComing l) s = .next (settle (elapse n s)) ∧
      ((elapse n s).clock.time - r.release).toNat ≤ 1 ∧ hasCandidate l (elapse n s) = true ∧
      (s.clock.pending = 0 → n = (r.release - s.clock.time).toNat)

/-- LANE_BLOCK by lane state (R108): an IDLE or PAUSED lane enters BLOCKED with cause REQUEST, a SENDING lane becomes
BLOCK-PENDING, another stays. LANE_RESUME (R111): only a BLOCKED lane with WAIT low is reopened, IDLE with LANE-OPEN;
where it is the notice lane its hold of the notices ends (R162), and that the held retry timers are compared with the
interval in force at that moment is the model's reading (R164, assumption log 22; periods of 8 ns: log 2). An operand
above 1 is BAD-VALUE. -/
def Obligations.LanesAreBlockedAndReopened : Prop :=
  ∀ (m : Sender) (s : State), Accepts m s →
    let t := taken m s
    (∀ lane : Byte, 2 ≤ lane.toNat →
        exec (.laneBlock m lane) s = .next (settle (answered m 0x22 .badValue [] true t)) ∧
          exec (.laneResume m lane) s = .next (settle (answered m 0x23 .badValue [] true t))) ∧
      ∀ l : Lane,
        let lane : Byte := match l with
          | .a => 0
          | .b => 1
        let opened := raise .laneOpen none 0xFFFF (lane ++ (0 : Byte) ++ (0 : Byte) ++ (0 : Byte))
          (t.setLane l { t.lane l with state := .idle })
        let compared : State :=
          { opened with
            notices :=
              { opened.notices with
                queue := opened.notices.queue.map fun n =>
                  match n.condition with
                  | .waiting e =>
                    if s.params.retryInterval * 125000 ≤ e then
                      { n with
                        retriesLeft := n.retriesLeft - 1
                        condition := .due
                        nextTransmission := s.clock.time }
                    else n
                  | _ => n } }
        exec (.laneBlock m lane) s =
            .next
              (settle
                (answered m 0x22 .ok [] true
                  (match (s.lane l).state with
                  | .idle => enterBlocked l .request t
                  | .paused => enterBlocked l .request t
                  | .sending => t.setLane l { t.lane l with state := .blockPending }
                  | .blockPending => t
                  | .blocked => t))) ∧
          exec (.laneResume m lane) s =
            .next
              (settle
                (if (s.lane l).state ≠ .blocked then answered m 0x23 .state [] true t
                else if s.waitHigh l = true then answered m 0x23 .paused [] true t
                else
                  answered m 0x23 .ok [] true
                    (if s.params.noticeLane = l then compared else opened)))

/-! ### The Gate Clock (R57 to R74) -/

/-- The passing of reference-clock time (R57, R58, R66): the count moves by one a period, by two or not at all at the
periods at which a unit of correction is applied, one unit each time the slew interval reaches 4096, and one period after
another gives what both give at once. SLEW_INTERVAL_EXPIRY: the command lets the rest of the interval pass (the model's
choice, assumption log 4) and one unit is applied: the gate time stands one ahead of, or one behind, the periods that
passed, and the correction is one nearer to 0 (R66); with no correction outstanding no interval runs. -/
def Obligations.ClockCountsAndSlews : Prop :=
  ((∀ c : Clock, c.pending = 0 → (clockAfter c 1) = { c with time := c.time + 1, holdover := c.holdover.map (· + 1) }) ∧
     (∀ c : Clock, c.pending ≠ 0 → c.slew < 4095 →
       clockAfter c 1 =
         { c with time := c.time + 1, slew := c.slew + 1, holdover := c.holdover.map (· + 1) }) ∧
     (∀ c : Clock, c.pending ≠ 0 → c.slew = 4095 →
       clockAfter c 1 =
         { c with
           time := if 0 < c.pending then c.time + 2 else c.time
           pending := if 0 < c.pending then c.pending - 1 else c.pending + 1
           slew := 0
           holdover := c.holdover.map (· + 1) }) ∧
     ∀ (c : Clock) (m n : Nat), c.slew < 4096 → clockAfter (clockAfter c m) n = clockAfter c (m + n)) ∧
    ∀ s : State, s.pins.resetN = true → s.clock.slew < 4096 →
      let n := 4096 - s.clock.slew
      (s.clock.pending = 0 → exec .slewIntervalExpiry s = .next (settle s)) ∧
        (s.clock.pending ≠ 0 →
          exec .slewIntervalExpiry s = .next (settle (elapse n s)) ∧
            (elapse n s).clock =
              { s.clock with
                time := s.clock.time + BitVec.ofInt 48 ((n : Int) + (if 0 < s.clock.pending then 1 else -1))
                pending := s.clock.pending - (if 0 < s.clock.pending then 1 else -1)
                slew := 0
                holdover := s.clock.holdover.map (· + n) })

/-- The offset of a used TIME frame (R61) is a signed 48-bit difference. Its use (R60, R62 to R65, R74): a step in
FREE and at or above the threshold, else the offset replaces the pending correction; the clock is LOCKED, the holdover
timer restarts, the arrival is the last reference; TIME-STEP for a step and TIME-RESTORED from HOLDOVER, each with the
offset saturated to four bytes (TIME-STEP first: the model's choice, assumption log 31); then a scheduled commit is
watched (R73; after these notices: the model's reading, assumption log 24). The stall timers are judged after all of
these, at the end of the command that ends the frame (the model's choice, assumption log 37). HOLDOVER_TIMER_EXPIRY
(R67): the command lets the rest of the timeout pass (the model's choice, assumption log 4; periods of 8 ns,
assumption log 2), the timer stops, and a LOCKED clock enters HOLDOVER with TIME-LOST. -/
def Obligations.TimeFramesSetTheClockAndHoldoverLosesIt : Prop :=
  (∀ (master arrival : Time) (compensation : Nat),
     let d : Nat := (master.toNat + compensation + (2 ^ 48 - arrival.toNat)) % 2 ^ 48
     timeOffset master compensation arrival = (if d < 2 ^ 47 then (d : Int) else (d : Int) - 2 ^ 48) ∧
       -(2 : Int) ^ 47 ≤ timeOffset master compensation arrival ∧
       timeOffset master compensation arrival ≤ 2 ^ 47 - 1) ∧
    (∀ (master : Time) (tag : Tag) (arrival : Time) (s : State),
       let offset := timeOffset master s.params.pathCompensation arrival
       let steps := decide (s.clock.state = .free ∨ s.params.stepThreshold ≤ offset.natAbs)
       let detail := BitVec.ofInt 32 (max (-2147483648) (min 2147483647 offset))
       let t :=
         { s with
           clock :=
             { time := if steps then s.clock.time + BitVec.ofInt 48 offset else s.clock.time
               state := .locked
               pending := if steps then 0 else offset
               slew := 0
               holdover := some 0
               lastReference := some arrival } }
       let u := if steps then raise .timeStep none tag detail t else t
       useTimeFrame master tag arrival s =
         watchCommit (if s.clock.state = .holdover then raise .timeRestored none tag detail u else u)) ∧
    ∀ (s : State) (e : Nat), s.pins.resetN = true → s.clock.holdover = some e →
      let t := elapse (s.params.holdoverTimeout * 125000 - e) s
      exec .holdoverTimerExpiry s =
        .next
          (settle
            (if s.clock.state = .locked then
              raise .timeLost none s.params.referenceTag (BitVec.ofNat 32 s.params.holdoverTimeout)
                { t with clock := { t.clock with state := .holdover, holdover := none } }
            else { t with clock := { t.clock with holdover := none } }))

/-- TIME_SET (R60, R69, R70, R73, R74): the count takes the value, the pending correction is 0, a FREE clock is in
HOLDOVER with its timer from zero, a frame past its header event is not used; a change that reaches the threshold
raises TIME-STEP; a scheduled commit whose time has come is signalled, after TIME-STEP (the model's reading,
assumption log 24); the stall timers are judged once, on what the request leaves with TIME-STEP raised (the model's
choice, assumption log 37), and then the reply is created at the new count (assumption log 15). -/
def Obligations.TimeSetSetsTheCount : Prop :=
  ∀ (m : Sender) (s : State) (value : Time), Accepts m s →
    let d : Nat := (value - s.clock.time).toNat
    let change : Int := if d < 2 ^ 47 then (d : Int) else (d : Int) - 2 ^ 48
    let set : State :=
      { taken m s with
        clock :=
          { s.clock with
            time := value
            pending := 0
            slew := 0
            state := if s.clock.state = .free then .holdover else s.clock.state
            holdover := if s.clock.state = .free then some 0 else s.clock.holdover }
        reception := s.reception.map fun r => { r with context := r.context.map fun c => { c with timeSet := true } } }
    let reported :=
      if s.params.stepThreshold ≤ change.natAbs then
        raise .timeStep none 0xFFFF (BitVec.ofInt 32 (max (-2147483648) (min 2147483647 change))) set
      else set
    exec (.timeSet m value) s =
      .next
        (settle
          (answered m 0x21 .ok [] true
            (match s.stage.commit with
            | .idle => reported
            | .scheduled time => if (value - time).toNat < 2 ^ 47 then commitSignal reported else reported)))

/-! ### The Change Stage (R115 to R133) -/

/-- STAGE_ENTRY and STAGE_RETIRE (R115 to R121): ownership, freeze, ranges, room, in this order; a change staged stands
in place of the one for its slot or at the tail, the first makes its manager the owner and starts the timer, and the
data is its index and the list's length. The ranges of a SET-ENTRY are those of R120 and R177, and what is kept is
exactly what was sent (R116, R123). -/
def Obligations.ChangesAreCheckedAndStaged : Prop :=
  (∀ (m : Sender) (s : State), Accepts m s →
      let t := taken m s
      let owned := s.stage.owner ≠ none ∧ s.stage.owner ≠ some m.manager
      let staged := fun (code : Byte) (c : Change) =>
        let list :=
          if c.slot ∈ s.stage.changes.map Change.slot then
            s.stage.changes.map fun x => if x.slot = c.slot then c else x
          else s.stage.changes ++ [c]
        if c.slot ∈ s.stage.changes.map Change.slot ∨ s.stage.changes.length < 16 then
          answered m code .ok [byteOf ((list.map Change.slot).idxOf c.slot), byteOf list.length] true
            { t with
              stage :=
                { t.stage with
                  changes := list
                  owner := if s.stage.changes = [] then some m.manager else s.stage.owner
                  timer := if s.stage.changes = [] then some 0 else t.stage.timer } }
        else answered m code .listFull [] true t
      (∀ e : EntryOperands,
          exec (.stageEntry m e) s =
            .next
              (settle
                (if owned then answered m 0x10 .ownedElsewhere [] true t
                else if s.stage.commit ≠ .idle then answered m 0x10 .frozen [] true t
                else
                  match changeOf e with
                  | none => answered m 0x10 .badValue [] true t
                  | some c => staged 0x10 c))) ∧
        ∀ slot : Byte,
          exec (.stageRetire m slot) s =
            .next
              (settle
                (if owned then answered m 0x11 .ownedElsewhere [] true t
                else if s.stage.commit ≠ .idle then answered m 0x11 .frozen [] true t
                else if h : slot.toNat < 64 then staged 0x11 (.retire ⟨slot.toNat, h⟩)
                else answered m 0x11 .badValue [] true t))) ∧
    ∀ e : EntryOperands,
      ((changeOf e).isSome = true ↔
          e.slot.toNat ≤ 63 ∧ (e.state = 1 ∨ e.state = 2) ∧ e.tag.toNat ≤ 0xEFFF ∧ e.lanes.toNat ≤ 3 ∧
            e.timing.toNat ≤ 2 ∧ e.holdOffset.toNat ≤ 50000000 ∧ e.latePolicy.toNat ≤ 1 ∧ e.errorPolicy.toNat ≤ 1 ∧
            e.stamping.toNat ≤ 1 ∧ e.continuity.toNat ≤ 1 ∧ 1 ≤ e.holdQuota.toNat ∧ e.resetContinuity.toNat ≤ 1) ∧
        ∀ c, changeOf e = some c → changeBytes c = encodeEntryOperands e ∧ changeKindByte c = 1

/-- UNSTAGE and DISCARD_STAGED (R122): ownership, freeze, operand, presence, in this order; the change of the slot, or
every change, leaves the list; an emptied list has no owner and no running timer. -/
def Obligations.StagedChangesAreWithdrawn : Prop :=
  ∀ (m : Sender) (s : State), Accepts m s →
    let t := taken m s
    let owned := s.stage.owner ≠ none ∧ s.stage.owner ≠ some m.manager
    (∀ slot : Byte,
        let rest := s.stage.changes.filter fun c => decide (c.slot.val ≠ slot.toNat)
        exec (.unstage m slot) s =
          .next
            (settle
              (if owned then answered m 0x12 .ownedElsewhere [] true t
              else if s.stage.commit ≠ .idle then answered m 0x12 .frozen [] true t
              else if 64 ≤ slot.toNat then answered m 0x12 .badValue [] true t
              else if rest.length = s.stage.changes.length then answered m 0x12 .notFound [] true t
              else
                answered m 0x12 .ok [byteOf rest.length] true
                  { t with
                    stage := if rest = [] then ⟨[], none, .idle, none⟩ else { t.stage with changes := rest } }))) ∧
      exec (.discardStaged m) s =
        .next
          (settle
            (if owned then answered m 0x13 .ownedElsewhere [] true t
            else if s.stage.commit ≠ .idle then answered m 0x13 .frozen [] true t
            else if s.stage.changes = [] then answered m 0x13 .empty [] true t
            else
              answered m 0x13 .ok [byteOf s.stage.changes.length] true { t with stage := ⟨[], none, .idle, none⟩ }))

/-- Validation finds the first failing change of the list with its reason, each change judged by the slot's state, its
tag, and the tags the table would hold after the list (R125); that a RETIRE of a VACANT slot holds the tag the slot
reads is the model's choice (assumption log 35). Application (R25 to R27, R127): each named slot changes as its one
change says, every other slot stays; the list is empty and IDLE without owner or timer; frames, lanes, clock and Agent
are not touched. A slot the list retires with no frame held and no reception engaged is VACANT at once, and RETIRED is
raised with its slot, tag and received counter; several enter in list order (the model's reading, assumption log 12).
-/
def Obligations.ValidationAndApplicationOfTheList : Prop :=
  (∀ s : State,
     let after := fun (k : Slot) =>
       match s.stage.changes.find? (fun c => decide (c.slot = k)) with
       | some (.setEntry _ _ config _) => some config.tag
       | some (.retire _) => some (s.entry k).config.tag
       | none => if (s.entry k).state = .vacant then none else some (s.entry k).config.tag
     let reason := fun (c : Change) =>
       match c with
       | .retire k =>
         if (s.entry k).state = .active ∨ (s.entry k).state = .muted then none else some Result.state
       | .setEntry k _ config _ =>
         if (s.entry k).state = .retiring then some .slotRetiring
         else if (s.entry k).state ≠ .vacant ∧ config.tag ≠ (s.entry k).config.tag then some .tagChange
         else if ∃ j, j ≠ k ∧ after j = some config.tag then some .duplicateTag
         else none
     (validate s = none ↔ ∀ c ∈ s.stage.changes, reason c = none) ∧
       ∀ f, validate s = some f ↔
         s.stage.changes[f.index]? = some f.change ∧ reason f.change = some f.reason ∧
           ∀ c ∈ s.stage.changes.take f.index, reason c = none) ∧
    ∀ s : State, (s.stage.changes.map Change.slot).Nodup →
      let t := applyChanges s
      let zero : SlotCounters := ⟨0, 0, 0, 0, 0, 0, 0, 0, 0, 0, 0, 0, 0, 0, 0⟩
      (∀ k, (∀ c ∈ s.stage.changes, c.slot ≠ k) → t.entry k = s.entry k) ∧
        (∀ k, .retire k ∈ s.stage.changes →
          t.entry k =
            { s.entry k with
              state := if (s.entry k).held = 0 ∧ s.engaged ≠ some k then .vacant else .retiring }) ∧
        (∀ k into config reset, .setEntry k into config reset ∈ s.stage.changes →
          t.entry k =
            if (s.entry k).state = .vacant then
              { state := into.entryState
                config := config
                held := (s.entry k).held
                expected := none
                behindRun := 0
                discontinuityA := false
                discontinuityB := false
                lastArrival := none
                counters := zero }
            else
              { s.entry k with
                state := into.entryState
                config := config
                expected := if reset then none else (s.entry k).expected
                behindRun := if reset then 0 else (s.entry k).behindRun }) ∧
        t.stage = ⟨[], none, .idle, none⟩ ∧
        (let vacated :=
          s.stage.changes.filterMap fun c =>
            match c with
            | .retire k => if (s.entry k).held = 0 ∧ s.engaged ≠ some k then some k else none
            | .setEntry _ _ _ _ => none
        t.notices = (raiseRetired vacated s).notices ∧ t.counters = (raiseRetired vacated s).counters) ∧
        t = { s with table := t.table, stage := t.stage, notices := t.notices, counters := t.counters }

/-- COMMIT (R129), COMMIT_AT (R130) and CANCEL_COMMIT (R132): the checks in their order; a list that validates is
applied, one that fails is kept with the reason and its change's index and slot; a schedule needs a clock that is not
FREE and a time ahead by at most 2^40, freezes the list and stops the timer; a cancel thaws it with the timer from
zero. -/
def Obligations.CommitsAreMadeScheduledAndCancelled : Prop :=
  ∀ (m : Sender) (s : State), Accepts m s →
    let t := taken m s
    let owned := s.stage.owner ≠ none ∧ s.stage.owner ≠ some m.manager
    exec (.commit m) s =
        .next
          (settle
            (if owned then answered m 0x14 .ownedElsewhere [] true t
            else if s.stage.changes = [] then answered m 0x14 .empty [] true t
            else if s.stage.commit ≠ .idle then answered m 0x14 .frozen [] true t
            else
              match validate s with
              | some f => answered m 0x14 f.reason [byteOf f.index, byteOf f.change.slot.val] true t
              | none => answered m 0x14 .ok [byteOf s.stage.changes.length] true (applyChanges t))) ∧
      (∀ time : Time,
          exec (.commitAt m time) s =
            .next
              (settle
                (if owned then answered m 0x15 .ownedElsewhere [] true t
                else if s.stage.changes = [] then answered m 0x15 .empty [] true t
                else if s.stage.commit ≠ .idle then answered m 0x15 .frozen [] true t
                else if s.clock.state = .free then answered m 0x15 .noTime [] true t
                else if (s.clock.time - time).toNat < 2 ^ 47 then answered m 0x15 .pastTime [] true t
                else if 2 ^ 40 < (time - s.clock.time).toNat then answered m 0x15 .badValue [] true t
                else
                  answered m 0x15 .ok [] true
                    { t with stage := { t.stage with commit := .scheduled time, timer := none } }))) ∧
        exec (.cancelCommit m) s =
          .next
            (settle
              (if owned then answered m 0x16 .ownedElsewhere [] true t
              else if s.stage.commit = .idle then answered m 0x16 .notScheduled [] true t
              else answered m 0x16 .ok [] true { t with stage := { t.stage with commit := .idle, timer := some 0 } }))

/-- SCHEDULED_COMMIT (R73, R131): the command lets time pass until T has come (the model's choice, assumption log 4); a list
that validates is applied with COMMIT-DONE, which enters after the RETIRED notices of the commit (the model's reading,
assumption log 12), and one that fails is kept with COMMIT-FAILED and its staging timer from zero; the commit state is
IDLE either way. STAGING_TIMER_EXPIRY (R118): the command lets the rest of the timeout pass (logs 4 and 2), the list is
emptied, its owner released, the timer stopped, and STAGING-EXPIRED carries the owner and the number of changes; the
Stream Table is not touched. -/
def Obligations.StageTimersRunOut : Prop :=
  (∀ (s : State) (time : Time), s.pins.resetN = true → s.stage.commit = .scheduled time →
     let t := elapseUntil time s
     let owner := s.stage.owner.getD 0
     exec .scheduledCommit s =
         .next
           (settle
             (match validate t with
             | none =>
               raise .commitDone none 0xFFFF (byteOf s.stage.changes.length ++ owner ++ (0 : Byte) ++ (0 : Byte))
                 (applyChanges t)
             | some f =>
               raise .commitFailed none
                 (match f.change with
                 | .setEntry _ _ config _ => config.tag
                 | .retire k => (s.entry k).config.tag)
                 (byteOf f.index ++ resultByte f.reason ++ byteOf f.change.slot.val ++ owner)
                 { t with stage := { t.stage with commit := .idle, timer := some 0 } })) ∧
       (s.clock.slew < 4096 → (time - s.clock.time).toNat < 2 ^ 46 →
         (t.clock.time - time).toNat ≤ 1 ∧ hasCome t.clock.time time = true)) ∧
    ∀ (s : State) (e : Nat), s.pins.resetN = true → s.stage.timer = some e →
      let t := elapse (s.params.stagingTimeout * 125000000 - e) s
      exec .stagingTimerExpiry s =
        .next
          (settle
            (raise .stagingExpired none 0xFFFF
              (s.stage.owner.getD 0 ++ byteOf s.stage.changes.length ++ (0 : Byte) ++ (0 : Byte))
              { t with stage := ⟨[], none, .idle, none⟩ }))

/-! ### Notices (R155 to R166) -/

/-- A raise (R158, R159): ignored with notices off or the class disabled; folded into the one record of its class and
slot; else a new DUE record at the tail with the next sequence, taking the loss flag; else lost and counted. -/
def Obligations.RaisesFoldQueueOrAreLost : Prop :=
  ∀ (cls : NoticeClass) (slot : Option Slot) (tag : Tag) (detail : BitVec 32) (s : State),
    let now := s.clock.time
    let here := fun (n : Notice) => n.cls = cls ∧ n.slot = slot
    let fold := fun (n : Notice) =>
      { n with
        count := min 255 (n.count + 1)
        lastTime := now
        tag := tag
        detail := detail
        retriesLeft := s.params.retryLimit
        condition := match n.condition with
          | .inFlight _ => .inFlight true
          | _ => .due
        nextTransmission := match n.condition with
          | .waiting _ => now
          | _ => n.nextTransmission }
    (∀ n ∈ s.notices.queue, n.count ≤ 255) →
    raise cls slot tag detail s =
      if s.params.noticeDestination = 0 ∨ s.params.classMask.getLsbD (noticeCode cls - 1) = false then s
      else if ∃ n ∈ s.notices.queue, here n then
        { s with
          notices :=
            { s.notices with queue := s.notices.queue.map fun n => if here n then fold n else n } }
      else if s.notices.queue.length < 16 then
        { s with
          notices :=
            { queue := s.notices.queue ++
                [{ sequence := s.notices.counter
                   cls := cls
                   slot := slot
                   tag := tag
                   count := 1
                   firstTime := now
                   lastTime := now
                   detail := detail
                   lossBefore := s.notices.loss
                   retriesLeft := s.params.retryLimit
                   nextTransmission := now
                   condition := .due }]
              counter := s.notices.counter + 1
              loss := false } }
      else
        { s with
          notices := { s.notices with loss := true }
          counters := { s.counters with noticesLost := s.counters.noticesLost + 1 } }

/-- The send end of a record's frame (R161), the record being found by its sequence (the model's choice, assumption
log 28): no record, no effect; a record changed during the send is DUE now; an unchanged one without retries expires
and is counted (during a hold too: assumption log 34); else it is WAITING with its timer at zero. RETRY_TIMER_EXPIRY
(R161, R162): the command lets the rest of the interval pass (the model's choice, assumption log 4; periods of 8 ns,
assumption log 2), retries left falls by one and the record is DUE from now; while the notice lane is BLOCKED the
timer stands and nothing happens. ACK_NOTICES (R163): from the notice destination it removes every record from N back
to 32767 numbers before N, and its data is the number removed and the number left; the stall timers are judged after
the removal and before the reply is created (the model's reading, assumption log 15), so an acknowledgement that takes
the last candidate of a PAUSED lane stops its timer; from another manager it is OWNED-ELSEWHERE and changes nothing.
-/
def Obligations.NoticeRecordsAreSentRetriedAndAcknowledged : Prop :=
  (∀ (s : State) (n : Notice), (s.notices.queue.map (·.sequence)).Nodup →
     (n.sequence ∉ s.notices.queue.map (·.sequence) → noticeSendEnd n.sequence s = s) ∧
       (n ∈ s.notices.queue → n.condition = .inFlight true →
         noticeSendEnd n.sequence s =
           { s with
             notices :=
               { s.notices with
                 queue := s.notices.queue.map fun x =>
                   if x = n then { n with condition := .due, nextTransmission := s.clock.time } else x } }) ∧
       (n ∈ s.notices.queue → n.condition = .inFlight false → n.retriesLeft = 0 →
         noticeSendEnd n.sequence s =
           { s with
             notices := { s.notices with queue := s.notices.queue.filter (· ≠ n) }
             counters := { s.counters with noticesExpired := s.counters.noticesExpired + 1 } }) ∧
       (n ∈ s.notices.queue → n.condition = .inFlight false → n.retriesLeft ≠ 0 →
         noticeSendEnd n.sequence s =
           { s with
             notices :=
               { s.notices with
                 queue := s.notices.queue.map fun x => if x = n then { n with condition := .waiting 0 } else x } })) ∧
    (∀ (s : State) (n : Notice) (e : Nat), s.pins.resetN = true → (s.notices.queue.map (·.sequence)).Nodup →
       n ∈ s.notices.queue → n.condition = .waiting e →
       let t := elapse (s.params.retryInterval * 125000 - e) s
       ((s.lane s.params.noticeLane).state = .blocked →
           exec (.retryTimerExpiry n.sequence) s = .next (settle s)) ∧
         ((s.lane s.params.noticeLane).state ≠ .blocked →
           exec (.retryTimerExpiry n.sequence) s =
             .next
               (settle
                 { t with
                   notices :=
                     { t.notices with
                       queue := t.notices.queue.map fun x =>
                         if x.sequence = n.sequence then
                           { x with
                             retriesLeft := n.retriesLeft - 1
                             condition := .due
                             nextTransmission := t.clock.time }
                         else x } }))) ∧
    ∀ (m : Sender) (s : State) (n : BitVec 16), Accepts m s →
      let t := taken m s
      let kept := s.notices.queue.filter fun r => decide (32768 ≤ (n - r.sequence).toNat)
      exec (.ackNotices m n) s =
        .next
          (settle
            (if m.manager = s.params.noticeDestination then
              answered m 0x32 .ok [byteOf (s.notices.queue.length - kept.length), byteOf kept.length] true
                { t with notices := { s.notices with queue := kept } }
            else answered m 0x32 .ownedElsewhere [] true t))

/-! ### The Management Agent (R134 to R154) -/

/-- READ_STATUS and READ_TIME (R71, R146, section 11.3): every field as it stands at execution, 0 for an absent field
and for the unnamed bits of the flags byte (the latter the model's choice, assumption log 36), each state by its code,
the holdover timer's rest in whole ms of 125000 periods (the model's reading, assumption log 2); nothing but the reply
and the Agent's own records changes. The request queue length is counted after the READ-STATUS has left the queue: 0
for a row taken at once, and for one that waited and is run by WORK_INTERVAL_END, with which no time passes (the
model's choice, assumption log 20), the number of requests behind it. -/
def Obligations.StatusAndTimeAreReadAtOneInstant : Prop :=
  let clockCode : ClockState → Byte := fun x =>
    match x with
    | .free => 0
    | .locked => 1
    | .holdover => 2
  let laneCode : LaneState → Byte := fun x =>
    match x with
    | .idle => 0
    | .sending => 1
    | .paused => 2
    | .blockPending => 3
    | .blocked => 4
  let block := fun (s : State) (waiting : Nat) =>
    [s.gateNumber,
        match s.link with
        | .down => 0
        | .acquiring => 1
        | .up => 2,
        clockCode s.clock.state, laneCode s.laneA.state, laneCode s.laneB.state] ++
      bytes16 (BitVec.ofNat 16 s.pool.freeCells.length) ++ bytes16 (BitVec.ofNat 16 s.freeDescs) ++
      [byteOf s.transitCount, byteOf s.stage.changes.length, s.stage.owner.getD 0,
        if s.stage.commit = .idle then 0 else 1] ++
      bytes48
        (match s.stage.commit with
        | .idle => 0
        | .scheduled time => time) ++
      [byteOf s.notices.queue.length,
        match s.trap.state with
        | .idle => 0
        | .armed => 1
        | .filling => 2
        | .held => 3,
        byteOf waiting]
  (∀ (m : Sender) (s : State), Accepts m s →
     exec (.readStatus m) s = .next (settle (answered m 0x01 .ok (block s 0) false (taken m s))) ∧
       exec (.readTime m) s =
         .next
           (settle
             (answered m 0x07 .ok
               (bytes48 s.clock.time ++ [clockCode s.clock.state] ++ bytes32 (BitVec.ofInt 32 s.clock.pending) ++
                 bytes16
                   (BitVec.ofNat 16
                     (match s.clock.holdover with
                     | none => 0
                     | some e => (s.params.holdoverTimeout * 125000 - e) / 125000)) ++
                 [if s.clock.lastReference = none then 0 else 1] ++ bytes48 (s.clock.lastReference.getD 0))
               false (taken m s)))) ∧
    ∀ (m : Sender) (s : State) (rest : List RequestRecord), s.pins.resetN = true → s.agent.state = .working →
      s.agent.requests = ⟨m.manager, m.txn, 0x01, [], m.allGates⟩ :: rest → s.agent.replies.length < 8 →
      m.manager ≠ 0 → repetition s.agent.managers m.manager m.txn = none →
      exec .workIntervalEnd s =
        .next
          (settle
            (answered m 0x01 .ok (block s rest.length) false
              (taken m { s with agent := { s.agent with state := .ready, work := 0, requests := rest } })))

/-- READ_ENTRY (R19, R40), FIND_TAG (R41) and READ_STAGED (R123): the record of section 11.3 for the slot, code by
code, the unnamed bits of its flags byte 0 (the model's choice, assumption log 36), the state of the one slot that is
not VACANT and holds the tag, the change at the index with the list's header; else BAD-VALUE, and NOT-FOUND for a tag
no slot holds. -/
def Obligations.EntriesTagsAndStagedChangesAreRead : Prop :=
  ∀ (m : Sender) (s : State), Accepts m s →
    let t := taken m s
    let flag : Bool → Byte → Byte := fun b value => if b then value else 0
    let stateCode : EntryState → Byte := fun x =>
      match x with
      | .vacant => 0
      | .active => 1
      | .muted => 2
      | .retiring => 3
    let config : EntryConfig → List Byte := fun c =>
      bytes16 c.tag ++
        [flag c.lanes.a 1 + flag c.lanes.b 2,
          match c.timing with
          | .pass => 0
          | .arrivalDelayed => 1
          | .originAligned => 2] ++
        bytes32 c.holdOffset ++
        [match c.latePolicy with
          | .forwardMarked => 0
          | .discard => 1,
          match c.errorPolicy with
          | .discard => 0
          | .passMarked => 1,
          flag c.stamping 1,
          match c.continuity with
          | .check => 0
          | .ignore => 1,
          c.holdQuota]
    (∀ (slot : Byte), 64 ≤ slot.toNat →
        exec (.readEntry m slot) s = .next (settle (answered m 0x02 .badValue [] false t))) ∧
      (∀ (slot : Byte) (k : Slot), slot.toNat = k.val →
        let e := s.entry k
        exec (.readEntry m slot) s =
          .next
            (settle
              (answered m 0x02 .ok
                ([slot, stateCode e.state] ++ config e.config ++
                  [byteOf e.held,
                    flag e.expected.isSome 1 + flag e.lastArrival.isSome 2 + flag e.discontinuityA 4 +
                      flag e.discontinuityB 8] ++
                  bytes16 (e.expected.getD 0) ++ [byteOf e.behindRun.val] ++ bytes48 (e.lastArrival.getD 0))
                false t))) ∧
      (∀ tag : Tag, 0xF000 ≤ tag.toNat →
        exec (.findTag m tag) s = .next (settle (answered m 0x03 .badValue [] false t))) ∧
      (∀ tag : Tag, tag.toNat < 0xF000 → (∀ k, (s.entry k).state ≠ .vacant → (s.entry k).config.tag ≠ tag) →
        exec (.findTag m tag) s = .next (settle (answered m 0x03 .notFound [] false t))) ∧
      (∀ (tag : Tag) (k : Slot), TableLaw s → tag.toNat < 0xF000 → (s.entry k).state ≠ .vacant →
        (s.entry k).config.tag = tag →
        exec (.findTag m tag) s =
          .next (settle (answered m 0x03 .ok [byteOf k.val, stateCode (s.entry k).state] false t))) ∧
      ∀ index : Byte,
        exec (.readStaged m index) s =
          .next
            (settle
              (match s.stage.changes[index.toNat]? with
              | none => answered m 0x05 .badValue [] false t
              | some c =>
                answered m 0x05 .ok
                  ([byteOf s.stage.changes.length, s.stage.owner.getD 0] ++
                    (match s.stage.commit with
                    | .idle => 0 :: bytes48 0
                    | .scheduled time => 1 :: bytes48 time) ++
                    [index] ++
                    match c with
                    | .setEntry k into values reset =>
                      [1, byteOf k.val,
                          match into with
                          | .active => 1
                          | .muted => 2] ++
                        config values ++ [flag reset 1]
                    | .retire k => [2, byteOf k.val] ++ List.replicate 15 0)
                  false t))

/-- READ_COUNTERS_SLOT (R39) and READ_COUNTERS_GLOBAL (R149): the counters in their order, four bytes each, as they stand
at execution, and with the clear option all of them 0 in the same step; the GLOBAL scope does not read the slot operand;
a slot above 63 or a clear option above 1 is BAD-VALUE (R19, R177). That a clear byte above 1 leaves the state-changing
mark clear is the model's choice (assumption log 33). -/
def Obligations.CountersAreReadAndCleared : Prop :=
  ∀ (m : Sender) (s : State) (slot clear : Byte), Accepts m s →
    let t := taken m s
    let g := s.counters
    let changing := decide (clear = 1)
    (64 ≤ slot.toNat ∨ 2 ≤ clear.toNat →
        exec (.readCountersSlot m slot clear) s = .next (settle (answered m 0x04 .badValue [] changing t))) ∧
      (∀ k : Slot, slot.toNat = k.val → clear.toNat < 2 →
        let e := s.entry k
        let c := e.counters
        exec (.readCountersSlot m slot clear) s =
          .next
            (settle
              (answered m 0x04 .ok
                (slot ::
                  [c.received, c.admitted, c.discardedErrored, c.discardedBehind, c.discardedLate, c.discardedTooEarly,
                    c.discardedQuota, c.discardedPool, c.discardedMuted, c.discardedFlushed, c.erroredPassed,
                    c.gapFrames, c.restarts, c.laneLostA, c.laneLostB].flatMap bytes32)
                changing
                (if clear = 1 then
                  t.setEntry k { e with counters := ⟨0, 0, 0, 0, 0, 0, 0, 0, 0, 0, 0, 0, 0, 0, 0⟩ }
                else t)))) ∧
      (2 ≤ clear.toNat →
        exec (.readCountersGlobal m slot clear) s = .next (settle (answered m 0x04 .badValue [] changing t))) ∧
      (clear.toNat < 2 →
        exec (.readCountersGlobal m slot clear) s =
          .next
            (settle
              (answered m 0x04 .ok
                ([g.malformed, g.unknownTag, g.transitForwarded, g.transitDropped, g.truncated, g.ownReturned,
                    g.requestsDropped, g.repliesLost, g.noticesLost, g.noticesExpired, g.stampsSkipped,
                    g.linkLosses].flatMap bytes32)
                changing
                (if clear = 1 then { t with counters := ⟨0, 0, 0, 0, 0, 0, 0, 0, 0, 0, 0, 0⟩ } else t))))

/-- READ_TRAP by trap state (R172): only a HELD capture with the offset below its kept length answers OK, with
generation, filter, mode, record (section 11.4, code by code, stamp flags 5 to 7 written 0: the model's choice,
assumption log 36) and up to 256 bytes, the trap unchanged; the two tag bytes of a filter tag ANY are a free value
(assumption log 13). ARM_TRAP (R168): operands with a meaning arm the trap with an empty buffer and no record and keep
the generation, others are BAD-VALUE. DISARM_TRAP (R173): IDLE, the capture discarded. -/
def Obligations.TrapIsReadArmedAndDisarmed : Prop :=
  ∀ (m : Sender) (s : State), Accepts m s →
    let t := taken m s
    let flag : Bool → Byte → Byte := fun b value => if b then value else 0
    let conditionCode : TrapCondition → Byte := fun x =>
      match x with
      | .any => 0
      | .errored => 1
      | .gap => 2
      | .late => 3
    let modeCode : TrapMode → Byte := fun x =>
      match x with
      | .oneShot => 0
      | .continuous => 1
    let outcomeCode : EndOutcome → Byte := fun x =>
      match x with
      | .good => 0
      | .badCheck => 1
      | .truncated => 2
      | .overlong => 3
    let classCode : DispatchClass → Byte := fun x =>
      match x with
      | .malformed => 0
      | .streamCandidate => 1
      | .transit => 2
      | .timeReference => 3
      | .localRequest => 4
      | .allGatesRequest => 5
      | .ownReturned => 6
    let verdictCode : Verdict → List Byte := fun x =>
      match x with
      | .unjudged => [0, 0, 0]
      | .first => [1, 0, 0]
      | .inOrder => [2, 0, 0]
      | .gap distance => 3 :: bytes16 distance
      | .behind => [4, 0, 0]
      | .restart => [5, 0, 0]
      | .unchecked => [6, 0, 0]
    let admissionCode : AdmissionOutcome → Byte := fun x =>
      match x with
      | .noAction => 0
      | .muted => 1
      | .behind => 2
      | .late => 3
      | .tooEarly => 4
      | .keptWithoutStorage => 5
      | .quota => 6
      | .pool => 7
      | .reserved => 8
      | .transitReserved => 9
      | .transitDropped => 10
    let slotCode : Option Slot → Byte := fun x =>
      match x with
      | some k => BitVec.ofNat 8 k.val
      | none => 255
    let record : CaptureRecord → List Byte := fun r =>
      [outcomeCode r.outcome] ++ bytes16 (BitVec.ofNat 16 (min r.receivedLength 65535)) ++
        bytes16 (BitVec.ofNat 16 r.keptLength) ++ bytes48 r.arrival ++ [classCode r.cls, slotCode r.slot] ++
        verdictCode r.verdict ++
        [admissionCode r.admission,
          flag r.stampFlags.gapBefore 1 + flag r.stampFlags.restart 2 + flag r.stampFlags.late 4 +
            flag r.stampFlags.unaligned 8 + flag r.stampFlags.holdover 16,
          flag r.flushed 1]
    (∀ offset : BitVec 16,
        (s.trap.state = .idle ∨ s.trap.state = .armed →
            exec (.readTrap m offset) s = .next (settle (answered m 0x08 .empty [] false t))) ∧
          (s.trap.state = .filling →
            exec (.readTrap m offset) s = .next (settle (answered m 0x08 .trapBusy [] false t))) ∧
          ∀ r, s.trap.state = .held → s.trap.record = some r →
            (s.trap.buffer.length ≤ offset.toNat →
                exec (.readTrap m offset) s = .next (settle (answered m 0x08 .badValue [] false t))) ∧
              (offset.toNat < s.trap.buffer.length →
                ∃ (open16 : BitVec 16) (used : Nat), (s.trap.filterTag ≠ none → used = s.freeCount) ∧
                  exec (.readTrap m offset) s =
                    .next
                      (settle
                        (answered m 0x08 .ok
                          (bytes16 s.trap.generation ++
                            (match s.trap.filterTag with
                            | some tag => 0 :: bytes16 tag
                            | none => 1 :: bytes16 open16) ++
                            [s.trap.filterKind.getD 0, conditionCode s.trap.condition, modeCode s.trap.mode] ++
                            record r ++ (s.trap.buffer.drop offset.toNat).take 256)
                          false { t with freeCount := used })))) ∧
      (∀ o : TrapOperands,
        let valid :=
          o.tagSelect.toNat ≤ 1 ∧ o.kind.toNat ≤ 5 ∧ o.condition.toNat ≤ 3 ∧ o.mode.toNat ≤ 1 ∧
            (2 ≤ o.condition.toNat → o.kind = 1)
        (¬valid → exec (.armTrap m o) s = .next (settle (answered m 0x30 .badValue [] true t))) ∧
          (valid →
            ∃ condition mode, conditionCode condition = o.condition ∧ modeCode mode = o.mode ∧
              exec (.armTrap m o) s =
                .next
                  (settle
                    (answered m 0x30 .ok [] true
                      { t with
                        trap :=
                          { state := .armed
                            filterTag := if o.tagSelect = 0 then some o.tag else none
                            filterKind := if o.kind = 0 then none else some o.kind
                            condition := condition
                            mode := mode
                            buffer := []
                            record := none
                            generation := s.trap.generation } })))) ∧
        exec (.disarmTrap m) s =
          .next
            (settle
              (answered m 0x31 .ok [] true { t with trap := { s.trap with state := .idle, buffer := [], record := none } }))

/-- READ_PARAM and SET_PARAM (R147, section 8.6): the value of each of the fourteen parameters; an identifier that names
none is BAD-VALUE; the gate number is READ-ONLY; a value out of range is BAD-VALUE with nothing changed; the five
parameters without a row of their own take a value in range. -/
def Obligations.ParametersAreReadAndSet : Prop :=
  ∀ (m : Sender) (s : State) (id : Byte) (value : BitVec 32), Accepts m s → ParamLaw s.params →
    let t := taken m s
    let p := s.params
    let v := value.toNat
    let current : Option Nat :=
      match id.toNat with
      | 1 => some (if p.replyLane = .a then 0 else 1)
      | 2 => some (if p.noticeLane = .a then 0 else 1)
      | 3 => some p.noticeDestination.toNat
      | 4 => some p.classMask.toNat
      | 5 => some p.retryInterval
      | 6 => some p.retryLimit
      | 7 => some (if p.unknownAction = .transit then 0 else 1)
      | 8 => some p.referenceTag.toNat
      | 9 => some p.pathCompensation
      | 10 => some p.stepThreshold
      | 11 => some p.holdoverTimeout
      | 12 => some p.stallLimit
      | 13 => some p.stagingTimeout
      | 14 => some s.gateNumber.toNat
      | _ => none
    let inRange : Prop :=
      match id.toNat with
      | 1 => v ≤ 1
      | 2 => v ≤ 1
      | 3 => v ≤ 255
      | 4 => v ≤ 65535
      | 5 => 10 ≤ v ∧ v ≤ 10000
      | 6 => v ≤ 7
      | 7 => v ≤ 1
      | 8 => v ≤ 65535
      | 9 => v ≤ 65535
      | 10 => 1 ≤ v ∧ v ≤ 1000000
      | 11 => 10 ≤ v ∧ v ≤ 10000
      | 12 => 100 ≤ v ∧ v ≤ 1000000
      | 13 => 1 ≤ v ∧ v ≤ 60
      | _ => False
    let set := fun (params : Params) =>
      exec (.setParam m id value) s =
        .next (settle (answered m 0x20 .ok (id :: bytes32 value) true { t with params := params }))
    exec (.readParam m id) s =
        .next
          (settle
            (match current with
            | none => answered m 0x06 .badValue [] false t
            | some x => answered m 0x06 .ok (id :: bytes32 (BitVec.ofNat 32 x)) false t)) ∧
      (id = 14 → exec (.setParam m id value) s = .next (settle (answered m 0x20 .readOnly [] true t))) ∧
      (id ≠ 14 → ¬inRange → exec (.setParam m id value) s = .next (settle (answered m 0x20 .badValue [] true t))) ∧
      (inRange →
        (id = 4 → set { p with classMask := BitVec.ofNat 16 v }) ∧
          (id = 6 → set { p with retryLimit := v }) ∧
          (id = 7 → set { p with unknownAction := if v = 0 then .transit else .discard }) ∧
          (id = 8 → set { p with referenceTag := BitVec.ofNat 16 v }) ∧
          (id = 9 → set { p with pathCompensation := v }))

/-- The eight SET_PARAM rows of their own (R68, R99, R107, R119, R147, R164): a value out of range is BAD-VALUE, one
already held is OK without any other effect, and another takes effect at once: a BLOCKED new reply lane loses the
queued replies; a hold of the notices that ends, and a new retry interval, compare the running retry timers;
destination 0 empties the Notice Queue; a pending correction is brought below a new threshold; a holdover timer, stall
timers and staging timer that have reached a new limit run out (periods of 8 ns, 125 to the µs: assumption log 2).
Where both lanes' stall timers run out lane A enters BLOCKED before lane B, so that the one LANE-BLOCKED record ends
with lane B's detail: the model's choice, assumption log 32. A held retry timer is compared when the hold ends
(assumption log 22). The stall timers are judged on what the change leaves, before the reply is created (the model's
reading, assumption log 15): a Notice Queue that destination 0 has emptied is no candidate for it. -/
def Obligations.ParametersTakeEffectAtOnce : Prop :=
  ∀ (m : Sender) (s : State) (value : BitVec 32), Accepts m s → ParamLaw s.params →
    let t := taken m s
    let v := value.toNat
    let lane : Lane := if v = 0 then .a else .b
    let row := fun (c : Instr) (id : Byte) (valid same : Bool) (u : State) =>
      exec c s =
        .next
          (settle
            (if valid = false then answered m 0x20 .badValue [] true t
            else answered m 0x20 .ok (id :: bytes32 value) true (if same = true then t else u)))
    let compared := fun (u : State) =>
      { u with
        notices :=
          { u.notices with
            queue := u.notices.queue.map fun n =>
              match n.condition with
              | .waiting x =>
                if u.params.retryInterval * 125000 ≤ x then
                  { n with
                    retriesLeft := n.retriesLeft - 1
                    condition := .due
                    nextTransmission := s.clock.time }
                else n
              | _ => n } }
    let stalled := fun (l : Lane) (u : State) =>
      match (u.lane l).stall with
      | some e => if (u.lane l).state = .paused ∧ v * 125 ≤ e then enterBlocked l .stall u else u
      | none => u
    row (.setParamReplyLane m value) 1 (decide (v ≤ 1)) (decide (s.params.replyLane = lane))
        (let u : State := { t with params := { s.params with replyLane := lane } }
        if (s.lane lane).state = .blocked then
          { u with
            agent := { u.agent with replies := [] }
            counters :=
              { s.counters with
                repliesLost := s.counters.repliesLost + BitVec.ofNat 32 s.agent.replies.length } }
        else u) ∧
      row (.setParamNoticeLane m value) 2 (decide (v ≤ 1)) (decide (s.params.noticeLane = lane))
        (let u : State := { t with params := { s.params with noticeLane := lane } }
        if (s.lane s.params.noticeLane).state = .blocked ∧ (s.lane lane).state ≠ .blocked then compared u else u) ∧
      row (.setParamNoticeDestination m value) 3 (decide (v ≤ 255)) (decide (s.params.noticeDestination.toNat = v))
        { t with
          params := { s.params with noticeDestination := BitVec.ofNat 8 v }
          notices := if v = 0 then { s.notices with queue := [], loss := false } else s.notices } ∧
      row (.setParamNoticeRetryInterval m value) 5 (decide (10 ≤ v ∧ v ≤ 10000)) (decide (s.params.retryInterval = v))
        (let u : State := { t with params := { s.params with retryInterval := v } }
        if (s.lane s.params.noticeLane).state = .blocked then u else compared u) ∧
      row (.setParamStepThreshold m value) 10 (decide (1 ≤ v ∧ v ≤ 1000000)) (decide (s.params.stepThreshold = v))
        { t with
          params := { s.params with stepThreshold := v }
          clock :=
            { s.clock with
              pending :=
                if s.clock.pending.natAbs < v then s.clock.pending
                else if 0 ≤ s.clock.pending then (v : Int) - 1
                else 1 - (v : Int) } } ∧
      row (.setParamHoldoverTimeout m value) 11 (decide (10 ≤ v ∧ v ≤ 10000)) (decide (s.params.holdoverTimeout = v))
        (let u : State := { t with params := { s.params with holdoverTimeout := v } }
        match s.clock.holdover with
        | none => u
        | some e =>
          if e < v * 125000 then u
          else if s.clock.state = .locked then
            raise .timeLost none s.params.referenceTag (BitVec.ofNat 32 v)
              { u with clock := { s.clock with state := .holdover, holdover := none } }
          else { u with clock := { s.clock with holdover := none } }) ∧
      row (.setParamLaneStallLimit m value) 12 (decide (100 ≤ v ∧ v ≤ 1000000)) (decide (s.params.stallLimit = v))
        (stalled .b (stalled .a { t with params := { s.params with stallLimit := v } })) ∧
      row (.setParamStagingTimeout m value) 13 (decide (1 ≤ v ∧ v ≤ 60)) (decide (s.params.stagingTimeout = v))
        (let u : State := { t with params := { s.params with stagingTimeout := v } }
        match t.stage.timer with
        | none => u
        | some e =>
          if e < v * 125000000 then u
          else
            raise .stagingExpired none 0xFFFF
              (s.stage.owner.getD 0 ++ byteOf s.stage.changes.length ++ (0 : Byte) ++ (0 : Byte))
              { u with stage := ⟨[], none, .idle, none⟩ })

/-- RESTART (R151, R152): answered OK, the Agent RESTARTING with the marked reply in its queue. The hard reset comes with
the end of that reply, judged as the model does (assumption log 27): the Agent is RESTARTING, and no reply so marked waits
or is being sent. So it comes at once where the reply lane is BLOCKED and the reply is discarded at its creation, at the
send end of the reply, and where the reply lane enters BLOCKED at the send end of another frame while the reply waits;
STALL_TIMER_EXPIRY is in `WaitPausesAndStallBlocks`. -/
def Obligations.RestartEndsWithItsReply : Prop :=
  (∀ u : State,
     restartCheck u =
       if u.agent.state = .restarting ∧ (∀ r ∈ u.agent.replies, r.restart = false) ∧ sendingRestart u.laneA = false ∧
           sendingRestart u.laneB = false then
         hardReset u
       else u) ∧
    (∀ (m : Sender) (s : State), Accepts m s → RestartLaw s →
      let t := taken m s
      ((s.lane s.params.replyLane).state = .blocked → exec (.restart m) s = .next (settle (hardReset s))) ∧
        ((s.lane s.params.replyLane).state ≠ .blocked →
          exec (.restart m) s =
            .next (settle (withReply m .restarting ⟨m.txn, .ok, true⟩ (replyOf m 0x25 .ok [] true t) (settle t))))) ∧
    ∀ (l : Lane) (s : State) (snd : Send), s.pins.resetN = true → s.agent.state = .restarting →
      (s.lane l).sending = some snd → (∀ j, j ≠ l → sendingRestart (s.lane j) = false) →
      (∀ r, snd.item = .reply r → r.restart = true → (∀ x ∈ s.agent.replies, x.restart = false) →
          exec (.laneSendEnd l) s = .next (settle (hardReset s))) ∧
        (s.params.replyLane = l → (s.lane l).state = .blockPending →
          exec (.laneSendEnd l) s = .next (settle (hardReset s)))

/-- Requests that are not executed (R138, R141, R142): manager id 0 is BAD-REQUEST and touches no manager's entry; an
unknown code or a wrong number of operand bytes is BAD-REQUEST with the mark clear; a repetition of the manager's last
state-changing request, whatever its code, is answered with the stored result and DUPLICATE, its entry unchanged but for
its place. -/
def Obligations.BadAndRepeatedRequestsAreAnswered : Prop :=
  ∀ (m : Sender) (s : State) (code : Byte) (operands : List Byte), s.pins.resetN = true → s.agent.state = .ready →
    s.agent.requests = [] → s.agent.replies.length < 8 →
    let answeredOnly := fun (result : Result) (duplicate : Bool) (u : State) =>
      let a : Agent := { u.agent with state := .working, work := 0 }
      let reply : Reply :=
        { manager := m.manager
          txn := m.txn
          code := code
          result := result
          duplicate := duplicate
          allGates := m.allGates
          data := []
          created := s.clock.time
          restart := false }
      let judged := settle u
      if (s.lane s.params.replyLane).state = .blocked then
        { judged with
          agent := a
          counters := { s.counters with repliesLost := s.counters.repliesLost + 1 } }
      else { judged with agent := { a with replies := s.agent.replies ++ [reply] } }
    (m.manager = 0 →
        exec (.badRequest m code operands) s =
          .next (settle (answeredOnly .badRequest false (restartStaging 0 s)))) ∧
      (Accepts m s → decodeRequest code operands = none →
        exec (.badRequest m code operands) s = .next (settle (answered m code .badRequest [] false (taken m s)))) ∧
      ∀ result, m.manager ≠ 0 → AgentLaw s → ⟨m.manager, some ⟨m.txn, result, true⟩⟩ ∈ s.agent.managers →
        exec (.badRequest m code operands) s = .next (settle (answeredOnly result true (taken m s)))

/-- Intake (R135): with fewer than four requests waiting a record enters at the tail; with four a BUSY reply is created
at once, or lost where the reply lane is BLOCKED (R110); with eight replies waiting too it is dropped and counted. The
stall timers are judged before a reply enters (R106; the model's reading, assumption log 15). When requests run (R137): a
READY Agent executes the oldest waiting request while fewer than eight replies wait, and else nothing. So a request row
whose Agent is not READY, or has no room for its reply, goes through intake and no further; WORK_INTERVAL_END makes a
WORKING Agent READY, which then executes the oldest waiting request where there is room; that the interval ends with no
time passing is the model's choice (assumption log 20). An Agent that is not WORKING has no work interval. -/
def Obligations.RequestsAreTakenInAndRunInTurn : Prop :=
  (∀ (q : RequestRecord) (s : State),
     let judged := settle s
     intake q s =
       if s.agent.requests.length < 4 then { s with agent := { s.agent with requests := s.agent.requests ++ [q] } }
       else if s.agent.replies.length < 8 then
         if (s.lane s.params.replyLane).state = .blocked then
           { judged with counters := { s.counters with repliesLost := s.counters.repliesLost + 1 } }
         else
           { judged with
             agent :=
               { s.agent with
                 replies :=
                   s.agent.replies ++
                     [{ manager := q.manager
                        txn := q.txn
                        code := q.code
                        result := .busy
                        duplicate := false
                        allGates := q.allGates
                        data := []
                        created := s.clock.time
                        restart := false }] } }
       else { s with counters := { s.counters with requestsDropped := s.counters.requestsDropped + 1 } }) ∧
    (∀ u : State,
      agentRun u =
        match u.agent.requests with
        | [] => u
        | q :: rest =>
          if u.agent.state = .ready ∧ u.agent.replies.length < 8 then
            restartCheck (execute q { u with agent := { u.agent with requests := rest } })
          else u) ∧
    ∀ s : State, s.pins.resetN = true →
      let ready : State := { s with agent := { s.agent with state := .ready, work := 0 } }
      (∀ (m : Sender) (code : Byte) (operands : List Byte), s.agent.state ≠ .ready ∨ 8 ≤ s.agent.replies.length →
          exec (.badRequest m code operands) s =
            .next (settle (intake ⟨m.manager, m.txn, code, operands, m.allGates⟩ s))) ∧
        (s.agent.state ≠ .working → exec .workIntervalEnd s = .next (settle s)) ∧
        (s.agent.state = .working → s.agent.requests = [] ∨ 8 ≤ s.agent.replies.length →
          exec .workIntervalEnd s = .next (settle ready)) ∧
        ∀ q rest, s.agent.state = .working → s.agent.requests = q :: rest → s.agent.replies.length < 8 →
          exec .workIntervalEnd s =
            .next (settle (restartCheck (execute q { ready with agent := { ready.agent with requests := rest } })))

/-- The bytes of requests and headers (sections 11.1, 11.2): a field of several bytes goes most significant byte
first; every request, with any operand values, is read back from its code and operand bytes, and bytes that spell a
request are that request's bytes; every header is read back from its 14 bytes. A request row does what BAD_REQUEST's
intake does with the request's bytes. -/
def Obligations.RequestsAndHeadersDecodeAsEncoded : Prop :=
  (∀ r : Request, decodeRequest r.code r.operands = some r) ∧
    (∀ code operands r, decodeRequest code operands = some r → r.code = code ∧ r.operands = operands) ∧
    (∀ b5 b4 b3 b2 b1 b0 : Byte,
      bytes16 (b1 ++ b0) = [b1, b0] ∧ bytes32 (b3 ++ b2 ++ b1 ++ b0) = [b3, b2, b1, b0] ∧
        bytes48 (b5 ++ b4 ++ b3 ++ b2 ++ b1 ++ b0) = [b5, b4, b3, b2, b1, b0]) ∧
    (∀ (h : Header) (rest : List Byte), decodeHeader (encodeHeader h ++ rest) = some h) ∧
    ∀ (i : Instr) (m : Sender) (r : Request) (s : State), i.request = some (m, r) →
      exec i s = exec (.badRequest m r.code r.operands) s

/-! ### The laws of the gate, kept by every step -/

/-- The gate right after reset meets every law. -/
def Obligations.ResetMeetsTheLaws : Prop :=
  let s := State.reset
  AgentLaw s ∧ RestartLaw s ∧ ListLaw s.stage ∧ StagedInRange s.stage ∧ TableLaw s ∧ CommitLaw s ∧ ParamLaw s.params ∧
    NoticeLaw s ∧ ClockLaw s ∧ CounterLaw s ∧ CellLaw s ∧ HeldLaw s ∧ LaneLaw s ∧ QueueLaw s ∧ StallLaw s ∧ LinkLaw s ∧
    TrapLaw s.trap

/-- Every step keeps the Agent's queues and table within their bounds (R135, R140, R143), and a RESTART's reply waits
or is sent only while the Agent is RESTARTING (R151, R152). -/
def Obligations.AgentLawsAreKept : Prop :=
  ∀ s t : State, AgentLaw s → RestartLaw s → step s = .next t → AgentLaw t ∧ RestartLaw t

/-- Every step keeps the Pending Change List's law and ranges (R115, R117, R120) and the Stream Table's: entries in
range, and no two slots that are not VACANT with one tag (R20, R32). -/
def Obligations.TableAndListLawsAreKept : Prop :=
  ∀ s t : State, ListLaw s.stage → StagedInRange s.stage → TableLaw s → step s = .next t →
    ListLaw t.stage ∧ StagedInRange t.stage ∧ TableLaw t

/-- Every step keeps the commit state's law: SCHEDULED only with a list and a clock that is not FREE, the staging timer
running exactly while the list is not empty and the state IDLE (R118, R124). -/
def Obligations.CommitLawIsKept : Prop :=
  ∀ s t : State, CommitLaw s → step s = .next t → CommitLaw t

/-- Every step keeps the parameters in their ranges (section 8.6), the Notice Queue's law (R155, R164) and the clock's:
the pending correction below the threshold, and 0 in FREE (R62, R66, R67). -/
def Obligations.ParameterNoticeAndClockLawsAreKept : Prop :=
  ∀ s t : State, ParamLaw s.params → NoticeLaw s → ClockLaw s → step s = .next t →
    ParamLaw t.params ∧ NoticeLaw t ∧ ClockLaw t

/-- Every step keeps the sum of R38 in every slot: received is admitted plus the eight discard counters. -/
def Obligations.CounterSumsAreKept : Prop :=
  ∀ s t : State, CounterLaw s → step s = .next t → CounterLaw t

/-- Every step keeps the cells and descriptors accounted for: each of the 1024 cells is free or owned by one descriptor
(R75); each slot's held count is the number of its descriptors in use, at most 255, and 0 in a VACANT slot (R34); at most
32 transit descriptors are in use (R76). -/
def Obligations.StorageIsAccountedFor : Prop :=
  (∀ s t : State, CellLaw s → step s = .next t → CellLaw t) ∧
    ∀ s t : State, HeldLaw s → step s = .next t → HeldLaw t

/-- Every step keeps the lanes' laws: a send in progress exactly in SENDING and BLOCK-PENDING, empty queues in BLOCKED
(section 6.4, R109, R110), and a stall timer running exactly in PAUSED with a candidate ready (R106). With them it keeps
the law of the queues (R76, R96, R97): each holds HELD descriptors, each once, with the lane in their remaining set, and
none that the lane is sending; a HELD descriptor stands in a queue of a lane or is being sent on it for every lane of its
remaining set; no remaining set is empty; and the reservation of the frame in reception is the one RESERVED
descriptor. While RESET_N is low the descriptors stand as the reset found them (assumption log 7), so the two clauses
about every descriptor are stated for a gate out of reset. -/
def Obligations.LaneLawsAreKept : Prop :=
  (∀ s t : State, LaneLaw s → step s = .next t → LaneLaw t) ∧
    (∀ s t : State, LaneLaw s → QueueLaw s → step s = .next t → QueueLaw t) ∧
    ∀ s t : State, StallLaw s → step s = .next t → StallLaw t

/-- Every step keeps the link's law (the idle timer runs exactly in ACQUIRING, a reception only in UP: R4, R5, R7) and
the trap's (at most 1088 bytes, a capture only where its state has one: R167, R170, R171). -/
def Obligations.LinkAndTrapLawsAreKept : Prop :=
  (∀ s t : State, LinkLaw s → step s = .next t → LinkLaw t) ∧
    ∀ s t : State, TrapLaw s.trap → step s = .next t → TrapLaw t.trap
end

