-- ==== Sys2Proof/Laws/State.lean ====
section
/-! SUPPORT. What each update of the state leaves: one lemma per field per update, so that no proof unfolds an
update. -/

namespace Sys2Proof.Machine

open Sys2Proof

/-! ### One lane replaced -/

@[simp] theorem State.setLane_pins (s : State) (l : Lane) (u : LaneUnit) : (s.setLane l u).pins = s.pins := by cases l <;> rfl
@[simp] theorem State.setLane_gateNumber (s : State) (l : Lane) (u : LaneUnit) : (s.setLane l u).gateNumber = s.gateNumber := by cases l <;> rfl
@[simp] theorem State.setLane_link (s : State) (l : Lane) (u : LaneUnit) : (s.setLane l u).link = s.link := by cases l <;> rfl
@[simp] theorem State.setLane_idleTimer (s : State) (l : Lane) (u : LaneUnit) : (s.setLane l u).idleTimer = s.idleTimer := by cases l <;> rfl
@[simp] theorem State.setLane_reception (s : State) (l : Lane) (u : LaneUnit) : (s.setLane l u).reception = s.reception := by cases l <;> rfl
@[simp] theorem State.setLane_table (s : State) (l : Lane) (u : LaneUnit) : (s.setLane l u).table = s.table := by cases l <;> rfl
@[simp] theorem State.setLane_clock (s : State) (l : Lane) (u : LaneUnit) : (s.setLane l u).clock = s.clock := by cases l <;> rfl
@[simp] theorem State.setLane_pool (s : State) (l : Lane) (u : LaneUnit) : (s.setLane l u).pool = s.pool := by cases l <;> rfl
@[simp] theorem State.setLane_transitQueue (s : State) (l : Lane) (u : LaneUnit) : (s.setLane l u).transitQueue = s.transitQueue := by cases l <;> rfl
@[simp] theorem State.setLane_stage (s : State) (l : Lane) (u : LaneUnit) : (s.setLane l u).stage = s.stage := by cases l <;> rfl
@[simp] theorem State.setLane_agent (s : State) (l : Lane) (u : LaneUnit) : (s.setLane l u).agent = s.agent := by cases l <;> rfl
@[simp] theorem State.setLane_params (s : State) (l : Lane) (u : LaneUnit) : (s.setLane l u).params = s.params := by cases l <;> rfl
@[simp] theorem State.setLane_notices (s : State) (l : Lane) (u : LaneUnit) : (s.setLane l u).notices = s.notices := by cases l <;> rfl
@[simp] theorem State.setLane_trap (s : State) (l : Lane) (u : LaneUnit) : (s.setLane l u).trap = s.trap := by cases l <;> rfl
@[simp] theorem State.setLane_counters (s : State) (l : Lane) (u : LaneUnit) : (s.setLane l u).counters = s.counters := by cases l <;> rfl
@[simp] theorem State.setLane_freeCount (s : State) (l : Lane) (u : LaneUnit) : (s.setLane l u).freeCount = s.freeCount := by cases l <;> rfl
@[simp] theorem State.setLane_pending (s : State) (l : Lane) (u : LaneUnit) : (s.setLane l u).pending = s.pending := by cases l <;> rfl

/-! ### One entry replaced -/

@[simp] theorem State.setEntry_pins (s : State) (k : Slot) (e : Entry) : (s.setEntry k e).pins = s.pins := rfl
@[simp] theorem State.setEntry_gateNumber (s : State) (k : Slot) (e : Entry) : (s.setEntry k e).gateNumber = s.gateNumber := rfl
@[simp] theorem State.setEntry_link (s : State) (k : Slot) (e : Entry) : (s.setEntry k e).link = s.link := rfl
@[simp] theorem State.setEntry_idleTimer (s : State) (k : Slot) (e : Entry) : (s.setEntry k e).idleTimer = s.idleTimer := rfl
@[simp] theorem State.setEntry_reception (s : State) (k : Slot) (e : Entry) : (s.setEntry k e).reception = s.reception := rfl
@[simp] theorem State.setEntry_clock (s : State) (k : Slot) (e : Entry) : (s.setEntry k e).clock = s.clock := rfl
@[simp] theorem State.setEntry_pool (s : State) (k : Slot) (e : Entry) : (s.setEntry k e).pool = s.pool := rfl
@[simp] theorem State.setEntry_laneA (s : State) (k : Slot) (e : Entry) : (s.setEntry k e).laneA = s.laneA := rfl
@[simp] theorem State.setEntry_laneB (s : State) (k : Slot) (e : Entry) : (s.setEntry k e).laneB = s.laneB := rfl
@[simp] theorem State.setEntry_transitQueue (s : State) (k : Slot) (e : Entry) : (s.setEntry k e).transitQueue = s.transitQueue := rfl
@[simp] theorem State.setEntry_stage (s : State) (k : Slot) (e : Entry) : (s.setEntry k e).stage = s.stage := rfl
@[simp] theorem State.setEntry_agent (s : State) (k : Slot) (e : Entry) : (s.setEntry k e).agent = s.agent := rfl
@[simp] theorem State.setEntry_params (s : State) (k : Slot) (e : Entry) : (s.setEntry k e).params = s.params := rfl
@[simp] theorem State.setEntry_notices (s : State) (k : Slot) (e : Entry) : (s.setEntry k e).notices = s.notices := rfl
@[simp] theorem State.setEntry_trap (s : State) (k : Slot) (e : Entry) : (s.setEntry k e).trap = s.trap := rfl
@[simp] theorem State.setEntry_counters (s : State) (k : Slot) (e : Entry) : (s.setEntry k e).counters = s.counters := rfl
@[simp] theorem State.setEntry_freeCount (s : State) (k : Slot) (e : Entry) : (s.setEntry k e).freeCount = s.freeCount := rfl
@[simp] theorem State.setEntry_pending (s : State) (k : Slot) (e : Entry) : (s.setEntry k e).pending = s.pending := rfl

/-! ### One entry changed -/

@[simp] theorem State.modifyEntry_pins (s : State) (k : Slot) (f : Entry → Entry) : (s.modifyEntry k f).pins = s.pins := rfl
@[simp] theorem State.modifyEntry_gateNumber (s : State) (k : Slot) (f : Entry → Entry) : (s.modifyEntry k f).gateNumber = s.gateNumber := rfl
@[simp] theorem State.modifyEntry_link (s : State) (k : Slot) (f : Entry → Entry) : (s.modifyEntry k f).link = s.link := rfl
@[simp] theorem State.modifyEntry_idleTimer (s : State) (k : Slot) (f : Entry → Entry) : (s.modifyEntry k f).idleTimer = s.idleTimer := rfl
@[simp] theorem State.modifyEntry_reception (s : State) (k : Slot) (f : Entry → Entry) : (s.modifyEntry k f).reception = s.reception := rfl
@[simp] theorem State.modifyEntry_clock (s : State) (k : Slot) (f : Entry → Entry) : (s.modifyEntry k f).clock = s.clock := rfl
@[simp] theorem State.modifyEntry_pool (s : State) (k : Slot) (f : Entry → Entry) : (s.modifyEntry k f).pool = s.pool := rfl
@[simp] theorem State.modifyEntry_laneA (s : State) (k : Slot) (f : Entry → Entry) : (s.modifyEntry k f).laneA = s.laneA := rfl
@[simp] theorem State.modifyEntry_laneB (s : State) (k : Slot) (f : Entry → Entry) : (s.modifyEntry k f).laneB = s.laneB := rfl
@[simp] theorem State.modifyEntry_transitQueue (s : State) (k : Slot) (f : Entry → Entry) : (s.modifyEntry k f).transitQueue = s.transitQueue := rfl
@[simp] theorem State.modifyEntry_stage (s : State) (k : Slot) (f : Entry → Entry) : (s.modifyEntry k f).stage = s.stage := rfl
@[simp] theorem State.modifyEntry_agent (s : State) (k : Slot) (f : Entry → Entry) : (s.modifyEntry k f).agent = s.agent := rfl
@[simp] theorem State.modifyEntry_params (s : State) (k : Slot) (f : Entry → Entry) : (s.modifyEntry k f).params = s.params := rfl
@[simp] theorem State.modifyEntry_notices (s : State) (k : Slot) (f : Entry → Entry) : (s.modifyEntry k f).notices = s.notices := rfl
@[simp] theorem State.modifyEntry_trap (s : State) (k : Slot) (f : Entry → Entry) : (s.modifyEntry k f).trap = s.trap := rfl
@[simp] theorem State.modifyEntry_counters (s : State) (k : Slot) (f : Entry → Entry) : (s.modifyEntry k f).counters = s.counters := rfl
@[simp] theorem State.modifyEntry_freeCount (s : State) (k : Slot) (f : Entry → Entry) : (s.modifyEntry k f).freeCount = s.freeCount := rfl
@[simp] theorem State.modifyEntry_pending (s : State) (k : Slot) (f : Entry → Entry) : (s.modifyEntry k f).pending = s.pending := rfl

/-! ### One descriptor replaced -/

@[simp] theorem State.setDesc_pins (s : State) (d : DescNo) (r : Option Descriptor) : (s.setDesc d r).pins = s.pins := rfl
@[simp] theorem State.setDesc_gateNumber (s : State) (d : DescNo) (r : Option Descriptor) : (s.setDesc d r).gateNumber = s.gateNumber := rfl
@[simp] theorem State.setDesc_link (s : State) (d : DescNo) (r : Option Descriptor) : (s.setDesc d r).link = s.link := rfl
@[simp] theorem State.setDesc_idleTimer (s : State) (d : DescNo) (r : Option Descriptor) : (s.setDesc d r).idleTimer = s.idleTimer := rfl
@[simp] theorem State.setDesc_reception (s : State) (d : DescNo) (r : Option Descriptor) : (s.setDesc d r).reception = s.reception := rfl
@[simp] theorem State.setDesc_table (s : State) (d : DescNo) (r : Option Descriptor) : (s.setDesc d r).table = s.table := rfl
@[simp] theorem State.setDesc_clock (s : State) (d : DescNo) (r : Option Descriptor) : (s.setDesc d r).clock = s.clock := rfl
@[simp] theorem State.setDesc_laneA (s : State) (d : DescNo) (r : Option Descriptor) : (s.setDesc d r).laneA = s.laneA := rfl
@[simp] theorem State.setDesc_laneB (s : State) (d : DescNo) (r : Option Descriptor) : (s.setDesc d r).laneB = s.laneB := rfl
@[simp] theorem State.setDesc_transitQueue (s : State) (d : DescNo) (r : Option Descriptor) : (s.setDesc d r).transitQueue = s.transitQueue := rfl
@[simp] theorem State.setDesc_stage (s : State) (d : DescNo) (r : Option Descriptor) : (s.setDesc d r).stage = s.stage := rfl
@[simp] theorem State.setDesc_agent (s : State) (d : DescNo) (r : Option Descriptor) : (s.setDesc d r).agent = s.agent := rfl
@[simp] theorem State.setDesc_params (s : State) (d : DescNo) (r : Option Descriptor) : (s.setDesc d r).params = s.params := rfl
@[simp] theorem State.setDesc_notices (s : State) (d : DescNo) (r : Option Descriptor) : (s.setDesc d r).notices = s.notices := rfl
@[simp] theorem State.setDesc_trap (s : State) (d : DescNo) (r : Option Descriptor) : (s.setDesc d r).trap = s.trap := rfl
@[simp] theorem State.setDesc_counters (s : State) (d : DescNo) (r : Option Descriptor) : (s.setDesc d r).counters = s.counters := rfl
@[simp] theorem State.setDesc_freeCount (s : State) (d : DescNo) (r : Option Descriptor) : (s.setDesc d r).freeCount = s.freeCount := rfl
@[simp] theorem State.setDesc_pending (s : State) (d : DescNo) (r : Option Descriptor) : (s.setDesc d r).pending = s.pending := rfl

/-! ### The global counters changed -/

@[simp] theorem State.count_pins (s : State) (f : GlobalCounters → GlobalCounters) : (s.count f).pins = s.pins := rfl
@[simp] theorem State.count_gateNumber (s : State) (f : GlobalCounters → GlobalCounters) : (s.count f).gateNumber = s.gateNumber := rfl
@[simp] theorem State.count_link (s : State) (f : GlobalCounters → GlobalCounters) : (s.count f).link = s.link := rfl
@[simp] theorem State.count_idleTimer (s : State) (f : GlobalCounters → GlobalCounters) : (s.count f).idleTimer = s.idleTimer := rfl
@[simp] theorem State.count_reception (s : State) (f : GlobalCounters → GlobalCounters) : (s.count f).reception = s.reception := rfl
@[simp] theorem State.count_table (s : State) (f : GlobalCounters → GlobalCounters) : (s.count f).table = s.table := rfl
@[simp] theorem State.count_clock (s : State) (f : GlobalCounters → GlobalCounters) : (s.count f).clock = s.clock := rfl
@[simp] theorem State.count_pool (s : State) (f : GlobalCounters → GlobalCounters) : (s.count f).pool = s.pool := rfl
@[simp] theorem State.count_laneA (s : State) (f : GlobalCounters → GlobalCounters) : (s.count f).laneA = s.laneA := rfl
@[simp] theorem State.count_laneB (s : State) (f : GlobalCounters → GlobalCounters) : (s.count f).laneB = s.laneB := rfl
@[simp] theorem State.count_transitQueue (s : State) (f : GlobalCounters → GlobalCounters) : (s.count f).transitQueue = s.transitQueue := rfl
@[simp] theorem State.count_stage (s : State) (f : GlobalCounters → GlobalCounters) : (s.count f).stage = s.stage := rfl
@[simp] theorem State.count_agent (s : State) (f : GlobalCounters → GlobalCounters) : (s.count f).agent = s.agent := rfl
@[simp] theorem State.count_params (s : State) (f : GlobalCounters → GlobalCounters) : (s.count f).params = s.params := rfl
@[simp] theorem State.count_notices (s : State) (f : GlobalCounters → GlobalCounters) : (s.count f).notices = s.notices := rfl
@[simp] theorem State.count_trap (s : State) (f : GlobalCounters → GlobalCounters) : (s.count f).trap = s.trap := rfl
@[simp] theorem State.count_freeCount (s : State) (f : GlobalCounters → GlobalCounters) : (s.count f).freeCount = s.freeCount := rfl
@[simp] theorem State.count_pending (s : State) (f : GlobalCounters → GlobalCounters) : (s.count f).pending = s.pending := rfl

/-! ### The reception context changed -/

@[simp] theorem State.modifyContext_pins (s : State) (f : Context → Context) : (s.modifyContext f).pins = s.pins := rfl
@[simp] theorem State.modifyContext_gateNumber (s : State) (f : Context → Context) : (s.modifyContext f).gateNumber = s.gateNumber := rfl
@[simp] theorem State.modifyContext_link (s : State) (f : Context → Context) : (s.modifyContext f).link = s.link := rfl
@[simp] theorem State.modifyContext_idleTimer (s : State) (f : Context → Context) : (s.modifyContext f).idleTimer = s.idleTimer := rfl
@[simp] theorem State.modifyContext_table (s : State) (f : Context → Context) : (s.modifyContext f).table = s.table := rfl
@[simp] theorem State.modifyContext_clock (s : State) (f : Context → Context) : (s.modifyContext f).clock = s.clock := rfl
@[simp] theorem State.modifyContext_pool (s : State) (f : Context → Context) : (s.modifyContext f).pool = s.pool := rfl
@[simp] theorem State.modifyContext_laneA (s : State) (f : Context → Context) : (s.modifyContext f).laneA = s.laneA := rfl
@[simp] theorem State.modifyContext_laneB (s : State) (f : Context → Context) : (s.modifyContext f).laneB = s.laneB := rfl
@[simp] theorem State.modifyContext_transitQueue (s : State) (f : Context → Context) : (s.modifyContext f).transitQueue = s.transitQueue := rfl
@[simp] theorem State.modifyContext_stage (s : State) (f : Context → Context) : (s.modifyContext f).stage = s.stage := rfl
@[simp] theorem State.modifyContext_agent (s : State) (f : Context → Context) : (s.modifyContext f).agent = s.agent := rfl
@[simp] theorem State.modifyContext_params (s : State) (f : Context → Context) : (s.modifyContext f).params = s.params := rfl
@[simp] theorem State.modifyContext_notices (s : State) (f : Context → Context) : (s.modifyContext f).notices = s.notices := rfl
@[simp] theorem State.modifyContext_trap (s : State) (f : Context → Context) : (s.modifyContext f).trap = s.trap := rfl
@[simp] theorem State.modifyContext_counters (s : State) (f : Context → Context) : (s.modifyContext f).counters = s.counters := rfl
@[simp] theorem State.modifyContext_freeCount (s : State) (f : Context → Context) : (s.modifyContext f).freeCount = s.freeCount := rfl
@[simp] theorem State.modifyContext_pending (s : State) (f : Context → Context) : (s.modifyContext f).pending = s.pending := rfl

/-! ### What the changed field holds -/

/-- One place of a vector after a write. -/
theorem vector_get_set {α : Type} {n : Nat} (v : Vector α n) (i j : Fin n) (x : α) :
    (v.set i.val x i.isLt).get j = if i = j then x else v.get j := by
  rw [Vector.get_eq_getElem, Vector.getElem_set, Vector.get_eq_getElem]
  simp [Fin.ext_iff]

@[simp] theorem State.count_counters (s : State) (f : GlobalCounters → GlobalCounters) :
    (s.count f).counters = f s.counters := rfl

@[simp] theorem State.setDesc_freeCells (s : State) (d : DescNo) (r : Option Descriptor) :
    (s.setDesc d r).pool.freeCells = s.pool.freeCells := rfl

@[simp] theorem State.setDesc_admissionCount (s : State) (d : DescNo) (r : Option Descriptor) :
    (s.setDesc d r).pool.admissionCount = s.pool.admissionCount := rfl

/-- The lane that was replaced. -/
@[simp] theorem State.lane_setLane_same (s : State) (l : Lane) (u : LaneUnit) : (s.setLane l u).lane l = u := by
  cases l <;> rfl

/-- The other lane. -/
theorem State.lane_setLane_ne (s : State) {l j : Lane} (u : LaneUnit) (h : j ≠ l) :
    (s.setLane l u).lane j = s.lane j := by
  cases l <;> cases j <;> first | rfl | exact absurd rfl h

/-- The entry that was replaced. -/
@[simp] theorem State.entry_setEntry_same (s : State) (k : Slot) (e : Entry) : (s.setEntry k e).entry k = e := by
  simp [State.entry, State.setEntry, vector_get_set]

/-- Every other entry. -/
theorem State.entry_setEntry_ne (s : State) {k j : Slot} (e : Entry) (h : j ≠ k) :
    (s.setEntry k e).entry j = s.entry j := by
  simp [State.entry, State.setEntry, vector_get_set, h.symm]

@[simp] theorem State.entry_modifyEntry_same (s : State) (k : Slot) (f : Entry → Entry) :
    (s.modifyEntry k f).entry k = f (s.entry k) := by simp [State.modifyEntry]

theorem State.entry_modifyEntry_ne (s : State) {k j : Slot} (f : Entry → Entry) (h : j ≠ k) :
    (s.modifyEntry k f).entry j = s.entry j := by simp [State.modifyEntry, State.entry_setEntry_ne s _ h]

/-- The descriptor that was replaced. -/
@[simp] theorem State.desc_setDesc_same (s : State) (d : DescNo) (r : Option Descriptor) :
    (s.setDesc d r).desc d = r := by
  simp [State.desc, State.setDesc, vector_get_set]

/-- Every other descriptor. -/
theorem State.desc_setDesc_ne (s : State) {d x : DescNo} (r : Option Descriptor) (h : x ≠ d) :
    (s.setDesc d r).desc x = s.desc x := by
  simp [State.desc, State.setDesc, vector_get_set, h.symm]

/-! ### Views of the state under updates of other fields -/

@[simp] theorem State.entry_setLane (s : State) (l : Lane) (u : LaneUnit) (j : Slot) :
    (s.setLane l u).entry j = s.entry j := by cases l <;> rfl
@[simp] theorem State.desc_setLane (s : State) (l : Lane) (u : LaneUnit) (d : DescNo) :
    (s.setLane l u).desc d = s.desc d := by cases l <;> rfl
@[simp] theorem State.waitHigh_setLane (s : State) (l : Lane) (u : LaneUnit) (j : Lane) :
    (s.setLane l u).waitHigh j = s.waitHigh j := by cases l <;> rfl
@[simp] theorem State.context_setLane (s : State) (l : Lane) (u : LaneUnit) :
    (s.setLane l u).context = s.context := by cases l <;> rfl
@[simp] theorem State.engaged_setLane (s : State) (l : Lane) (u : LaneUnit) :
    (s.setLane l u).engaged = s.engaged := by cases l <;> rfl
@[simp] theorem State.descsInUse_setLane (s : State) (l : Lane) (u : LaneUnit) :
    (s.setLane l u).descsInUse = s.descsInUse := by cases l <;> rfl
@[simp] theorem State.freeDescs_setLane (s : State) (l : Lane) (u : LaneUnit) :
    (s.setLane l u).freeDescs = s.freeDescs := by cases l <;> rfl
@[simp] theorem State.transitCount_setLane (s : State) (l : Lane) (u : LaneUnit) :
    (s.setLane l u).transitCount = s.transitCount := by cases l <;> rfl

@[simp] theorem State.lane_setEntry (s : State) (k : Slot) (e : Entry) (l : Lane) :
    (s.setEntry k e).lane l = s.lane l := rfl
@[simp] theorem State.desc_setEntry (s : State) (k : Slot) (e : Entry) (d : DescNo) :
    (s.setEntry k e).desc d = s.desc d := rfl
@[simp] theorem State.waitHigh_setEntry (s : State) (k : Slot) (e : Entry) (l : Lane) :
    (s.setEntry k e).waitHigh l = s.waitHigh l := rfl
@[simp] theorem State.context_setEntry (s : State) (k : Slot) (e : Entry) :
    (s.setEntry k e).context = s.context := rfl
@[simp] theorem State.engaged_setEntry (s : State) (k : Slot) (e : Entry) :
    (s.setEntry k e).engaged = s.engaged := rfl
@[simp] theorem State.blocked_setEntry (s : State) (k : Slot) (e : Entry) (l : Lane) :
    (s.setEntry k e).blocked l = s.blocked l := rfl
@[simp] theorem State.descsInUse_setEntry (s : State) (k : Slot) (e : Entry) :
    (s.setEntry k e).descsInUse = s.descsInUse := rfl
@[simp] theorem State.freeDescs_setEntry (s : State) (k : Slot) (e : Entry) :
    (s.setEntry k e).freeDescs = s.freeDescs := rfl
@[simp] theorem State.transitCount_setEntry (s : State) (k : Slot) (e : Entry) :
    (s.setEntry k e).transitCount = s.transitCount := rfl

@[simp] theorem State.lane_modifyEntry (s : State) (k : Slot) (f : Entry → Entry) (l : Lane) :
    (s.modifyEntry k f).lane l = s.lane l := rfl
@[simp] theorem State.desc_modifyEntry (s : State) (k : Slot) (f : Entry → Entry) (d : DescNo) :
    (s.modifyEntry k f).desc d = s.desc d := rfl
@[simp] theorem State.waitHigh_modifyEntry (s : State) (k : Slot) (f : Entry → Entry) (l : Lane) :
    (s.modifyEntry k f).waitHigh l = s.waitHigh l := rfl
@[simp] theorem State.context_modifyEntry (s : State) (k : Slot) (f : Entry → Entry) :
    (s.modifyEntry k f).context = s.context := rfl
@[simp] theorem State.engaged_modifyEntry (s : State) (k : Slot) (f : Entry → Entry) :
    (s.modifyEntry k f).engaged = s.engaged := rfl
@[simp] theorem State.blocked_modifyEntry (s : State) (k : Slot) (f : Entry → Entry) (l : Lane) :
    (s.modifyEntry k f).blocked l = s.blocked l := rfl
@[simp] theorem State.descsInUse_modifyEntry (s : State) (k : Slot) (f : Entry → Entry) :
    (s.modifyEntry k f).descsInUse = s.descsInUse := rfl
@[simp] theorem State.freeDescs_modifyEntry (s : State) (k : Slot) (f : Entry → Entry) :
    (s.modifyEntry k f).freeDescs = s.freeDescs := rfl
@[simp] theorem State.transitCount_modifyEntry (s : State) (k : Slot) (f : Entry → Entry) :
    (s.modifyEntry k f).transitCount = s.transitCount := rfl

@[simp] theorem State.lane_setDesc (s : State) (d : DescNo) (r : Option Descriptor) (l : Lane) :
    (s.setDesc d r).lane l = s.lane l := rfl
@[simp] theorem State.entry_setDesc (s : State) (d : DescNo) (r : Option Descriptor) (k : Slot) :
    (s.setDesc d r).entry k = s.entry k := rfl
@[simp] theorem State.waitHigh_setDesc (s : State) (d : DescNo) (r : Option Descriptor) (l : Lane) :
    (s.setDesc d r).waitHigh l = s.waitHigh l := rfl
@[simp] theorem State.context_setDesc (s : State) (d : DescNo) (r : Option Descriptor) :
    (s.setDesc d r).context = s.context := rfl
@[simp] theorem State.engaged_setDesc (s : State) (d : DescNo) (r : Option Descriptor) :
    (s.setDesc d r).engaged = s.engaged := rfl
@[simp] theorem State.blocked_setDesc (s : State) (d : DescNo) (r : Option Descriptor) (l : Lane) :
    (s.setDesc d r).blocked l = s.blocked l := rfl

@[simp] theorem State.lane_count (s : State) (f : GlobalCounters → GlobalCounters) (l : Lane) :
    (s.count f).lane l = s.lane l := rfl
@[simp] theorem State.entry_count (s : State) (f : GlobalCounters → GlobalCounters) (k : Slot) :
    (s.count f).entry k = s.entry k := rfl
@[simp] theorem State.desc_count (s : State) (f : GlobalCounters → GlobalCounters) (d : DescNo) :
    (s.count f).desc d = s.desc d := rfl
@[simp] theorem State.waitHigh_count (s : State) (f : GlobalCounters → GlobalCounters) (l : Lane) :
    (s.count f).waitHigh l = s.waitHigh l := rfl
@[simp] theorem State.context_count (s : State) (f : GlobalCounters → GlobalCounters) :
    (s.count f).context = s.context := rfl
@[simp] theorem State.engaged_count (s : State) (f : GlobalCounters → GlobalCounters) :
    (s.count f).engaged = s.engaged := rfl
@[simp] theorem State.blocked_count (s : State) (f : GlobalCounters → GlobalCounters) (l : Lane) :
    (s.count f).blocked l = s.blocked l := rfl
@[simp] theorem State.descsInUse_count (s : State) (f : GlobalCounters → GlobalCounters) :
    (s.count f).descsInUse = s.descsInUse := rfl
@[simp] theorem State.freeDescs_count (s : State) (f : GlobalCounters → GlobalCounters) :
    (s.count f).freeDescs = s.freeDescs := rfl
@[simp] theorem State.transitCount_count (s : State) (f : GlobalCounters → GlobalCounters) :
    (s.count f).transitCount = s.transitCount := rfl

end Sys2Proof.Machine
end

