-- ==== Sys2Proof/Laws/Ops.lean ====
section
/-! SUPPORT. What each shared operation leaves alone, field by field, and what the time tests say. -/

namespace Sys2Proof.Machine

open Sys2Proof

/-! ### Time tests (R58) -/

/-- A time has come at itself. -/
theorem hasCome_self (t : Time) : hasCome t t = true := by simp [hasCome]

/-- A time that has come is not ahead. -/
theorem aheadBy_of_hasCome {now t : Time} (h : hasCome now t = true) : aheadBy now t = 0 := by simp [aheadBy, h]

/-- The oldest of one. -/
theorem oldest_singleton {α : Type} (now : Time) (time : α → Time) (x : α) : oldest now time [x] = some x := rfl

/-- The oldest of a list is one of the list. -/
theorem oldest_mem {α : Type} {now : Time} {time : α → Time} {xs : List α} {x : α} (h : oldest now time xs = some x) :
    x ∈ xs := by
  induction xs generalizing x with
  | nil => simp [oldest] at h
  | cons y ys ih =>
    rw [oldest] at h
    split at h
    · simp only [Option.some.injEq] at h
      simp [h]
    · rename_i z hz
      split at h
      · simp only [Option.some.injEq] at h
        exact List.mem_cons_of_mem _ (h ▸ ih hz)
      · simp only [Option.some.injEq] at h
        simp [h]

/-- A list has an oldest exactly when it is not empty. -/
theorem oldest_isSome {α : Type} (now : Time) (time : α → Time) (xs : List α) :
    (oldest now time xs).isSome = !xs.isEmpty := by
  cases xs with
  | nil => rfl
  | cons y ys =>
    rw [oldest]
    split
    · rfl
    · split <;> rfl

/-! ### Raising a notice: only the Notice Unit and the count of lost notices can change -/

@[simp] theorem raise_pins (cls : NoticeClass) (slot : Option Slot) (tag : Tag) (detail : BitVec 32) (s : State) : (raise cls slot tag detail s).pins = s.pins := by
  unfold raise; split_ifs <;> rfl
@[simp] theorem raise_gateNumber (cls : NoticeClass) (slot : Option Slot) (tag : Tag) (detail : BitVec 32) (s : State) : (raise cls slot tag detail s).gateNumber = s.gateNumber := by
  unfold raise; split_ifs <;> rfl
@[simp] theorem raise_link (cls : NoticeClass) (slot : Option Slot) (tag : Tag) (detail : BitVec 32) (s : State) : (raise cls slot tag detail s).link = s.link := by
  unfold raise; split_ifs <;> rfl
@[simp] theorem raise_idleTimer (cls : NoticeClass) (slot : Option Slot) (tag : Tag) (detail : BitVec 32) (s : State) : (raise cls slot tag detail s).idleTimer = s.idleTimer := by
  unfold raise; split_ifs <;> rfl
@[simp] theorem raise_reception (cls : NoticeClass) (slot : Option Slot) (tag : Tag) (detail : BitVec 32) (s : State) : (raise cls slot tag detail s).reception = s.reception := by
  unfold raise; split_ifs <;> rfl
@[simp] theorem raise_table (cls : NoticeClass) (slot : Option Slot) (tag : Tag) (detail : BitVec 32) (s : State) : (raise cls slot tag detail s).table = s.table := by
  unfold raise; split_ifs <;> rfl
@[simp] theorem raise_clock (cls : NoticeClass) (slot : Option Slot) (tag : Tag) (detail : BitVec 32) (s : State) : (raise cls slot tag detail s).clock = s.clock := by
  unfold raise; split_ifs <;> rfl
@[simp] theorem raise_pool (cls : NoticeClass) (slot : Option Slot) (tag : Tag) (detail : BitVec 32) (s : State) : (raise cls slot tag detail s).pool = s.pool := by
  unfold raise; split_ifs <;> rfl
@[simp] theorem raise_laneA (cls : NoticeClass) (slot : Option Slot) (tag : Tag) (detail : BitVec 32) (s : State) : (raise cls slot tag detail s).laneA = s.laneA := by
  unfold raise; split_ifs <;> rfl
@[simp] theorem raise_laneB (cls : NoticeClass) (slot : Option Slot) (tag : Tag) (detail : BitVec 32) (s : State) : (raise cls slot tag detail s).laneB = s.laneB := by
  unfold raise; split_ifs <;> rfl
@[simp] theorem raise_transitQueue (cls : NoticeClass) (slot : Option Slot) (tag : Tag) (detail : BitVec 32) (s : State) : (raise cls slot tag detail s).transitQueue = s.transitQueue := by
  unfold raise; split_ifs <;> rfl
@[simp] theorem raise_stage (cls : NoticeClass) (slot : Option Slot) (tag : Tag) (detail : BitVec 32) (s : State) : (raise cls slot tag detail s).stage = s.stage := by
  unfold raise; split_ifs <;> rfl
@[simp] theorem raise_agent (cls : NoticeClass) (slot : Option Slot) (tag : Tag) (detail : BitVec 32) (s : State) : (raise cls slot tag detail s).agent = s.agent := by
  unfold raise; split_ifs <;> rfl
@[simp] theorem raise_params (cls : NoticeClass) (slot : Option Slot) (tag : Tag) (detail : BitVec 32) (s : State) : (raise cls slot tag detail s).params = s.params := by
  unfold raise; split_ifs <;> rfl
@[simp] theorem raise_trap (cls : NoticeClass) (slot : Option Slot) (tag : Tag) (detail : BitVec 32) (s : State) : (raise cls slot tag detail s).trap = s.trap := by
  unfold raise; split_ifs <;> rfl
@[simp] theorem raise_freeCount (cls : NoticeClass) (slot : Option Slot) (tag : Tag) (detail : BitVec 32) (s : State) : (raise cls slot tag detail s).freeCount = s.freeCount := by
  unfold raise; split_ifs <;> rfl
@[simp] theorem raise_pending (cls : NoticeClass) (slot : Option Slot) (tag : Tag) (detail : BitVec 32) (s : State) : (raise cls slot tag detail s).pending = s.pending := by
  unfold raise; split_ifs <;> rfl

/-- Of the counters a raise can change notices lost alone. -/
theorem raise_counters (cls : NoticeClass) (slot : Option Slot) (tag : Tag) (detail : BitVec 32) (s : State) :
    ∃ n, (raise cls slot tag detail s).counters = { s.counters with noticesLost := n } := by
  unfold raise
  split_ifs
  · exact ⟨_, rfl⟩
  · exact ⟨_, rfl⟩
  · exact ⟨_, rfl⟩
  · exact ⟨_, rfl⟩

/-- With notices off a raise is ignored. -/
theorem raise_off {s : State} (h : s.params.noticeDestination = 0) (cls : NoticeClass) (slot : Option Slot) (tag : Tag)
    (detail : BitVec 32) : raise cls slot tag detail s = s := by simp [raise, h]

/-- Views that a raise leaves. -/
@[simp] theorem raise_lane (cls : NoticeClass) (slot : Option Slot) (tag : Tag) (detail : BitVec 32) (s : State)
    (l : Lane) : (raise cls slot tag detail s).lane l = s.lane l := by cases l <;> simp [State.lane]

@[simp] theorem raise_entry (cls : NoticeClass) (slot : Option Slot) (tag : Tag) (detail : BitVec 32) (s : State)
    (k : Slot) : (raise cls slot tag detail s).entry k = s.entry k := by simp [State.entry]

@[simp] theorem raise_desc (cls : NoticeClass) (slot : Option Slot) (tag : Tag) (detail : BitVec 32) (s : State)
    (d : DescNo) : (raise cls slot tag detail s).desc d = s.desc d := by simp [State.desc]

/-! ### Retirement -/

@[simp] theorem vacate_pins (k : Slot) (s : State) : (vacate k s).pins = s.pins := by
  simp [vacate]
@[simp] theorem vacate_gateNumber (k : Slot) (s : State) : (vacate k s).gateNumber = s.gateNumber := by
  simp [vacate]
@[simp] theorem vacate_link (k : Slot) (s : State) : (vacate k s).link = s.link := by
  simp [vacate]
@[simp] theorem vacate_idleTimer (k : Slot) (s : State) : (vacate k s).idleTimer = s.idleTimer := by
  simp [vacate]
@[simp] theorem vacate_reception (k : Slot) (s : State) : (vacate k s).reception = s.reception := by
  simp [vacate]
@[simp] theorem vacate_clock (k : Slot) (s : State) : (vacate k s).clock = s.clock := by
  simp [vacate]
@[simp] theorem vacate_pool (k : Slot) (s : State) : (vacate k s).pool = s.pool := by
  simp [vacate]
@[simp] theorem vacate_laneA (k : Slot) (s : State) : (vacate k s).laneA = s.laneA := by
  simp [vacate]
@[simp] theorem vacate_laneB (k : Slot) (s : State) : (vacate k s).laneB = s.laneB := by
  simp [vacate]
@[simp] theorem vacate_transitQueue (k : Slot) (s : State) : (vacate k s).transitQueue = s.transitQueue := by
  simp [vacate]
@[simp] theorem vacate_stage (k : Slot) (s : State) : (vacate k s).stage = s.stage := by
  simp [vacate]
@[simp] theorem vacate_agent (k : Slot) (s : State) : (vacate k s).agent = s.agent := by
  simp [vacate]
@[simp] theorem vacate_params (k : Slot) (s : State) : (vacate k s).params = s.params := by
  simp [vacate]
@[simp] theorem vacate_trap (k : Slot) (s : State) : (vacate k s).trap = s.trap := by
  simp [vacate]
@[simp] theorem vacate_freeCount (k : Slot) (s : State) : (vacate k s).freeCount = s.freeCount := by
  simp [vacate]
@[simp] theorem vacate_pending (k : Slot) (s : State) : (vacate k s).pending = s.pending := by
  simp [vacate]

@[simp] theorem retireCheck_pins (k : Slot) (s : State) : (retireCheck k s).pins = s.pins := by
  unfold retireCheck; split <;> simp
@[simp] theorem retireCheck_gateNumber (k : Slot) (s : State) : (retireCheck k s).gateNumber = s.gateNumber := by
  unfold retireCheck; split <;> simp
@[simp] theorem retireCheck_link (k : Slot) (s : State) : (retireCheck k s).link = s.link := by
  unfold retireCheck; split <;> simp
@[simp] theorem retireCheck_idleTimer (k : Slot) (s : State) : (retireCheck k s).idleTimer = s.idleTimer := by
  unfold retireCheck; split <;> simp
@[simp] theorem retireCheck_reception (k : Slot) (s : State) : (retireCheck k s).reception = s.reception := by
  unfold retireCheck; split <;> simp
@[simp] theorem retireCheck_clock (k : Slot) (s : State) : (retireCheck k s).clock = s.clock := by
  unfold retireCheck; split <;> simp
@[simp] theorem retireCheck_pool (k : Slot) (s : State) : (retireCheck k s).pool = s.pool := by
  unfold retireCheck; split <;> simp
@[simp] theorem retireCheck_laneA (k : Slot) (s : State) : (retireCheck k s).laneA = s.laneA := by
  unfold retireCheck; split <;> simp
@[simp] theorem retireCheck_laneB (k : Slot) (s : State) : (retireCheck k s).laneB = s.laneB := by
  unfold retireCheck; split <;> simp
@[simp] theorem retireCheck_transitQueue (k : Slot) (s : State) : (retireCheck k s).transitQueue = s.transitQueue := by
  unfold retireCheck; split <;> simp
@[simp] theorem retireCheck_stage (k : Slot) (s : State) : (retireCheck k s).stage = s.stage := by
  unfold retireCheck; split <;> simp
@[simp] theorem retireCheck_agent (k : Slot) (s : State) : (retireCheck k s).agent = s.agent := by
  unfold retireCheck; split <;> simp
@[simp] theorem retireCheck_params (k : Slot) (s : State) : (retireCheck k s).params = s.params := by
  unfold retireCheck; split <;> simp
@[simp] theorem retireCheck_trap (k : Slot) (s : State) : (retireCheck k s).trap = s.trap := by
  unfold retireCheck; split <;> simp
@[simp] theorem retireCheck_freeCount (k : Slot) (s : State) : (retireCheck k s).freeCount = s.freeCount := by
  unfold retireCheck; split <;> simp
@[simp] theorem retireCheck_pending (k : Slot) (s : State) : (retireCheck k s).pending = s.pending := by
  unfold retireCheck; split <;> simp

/-- A retirement check changes no entry but its own, and of it the state alone. -/
theorem retireCheck_entry (k j : Slot) (s : State) :
    (retireCheck k s).entry j = s.entry j ∨
      j = k ∧ (s.entry k).state = .retiring ∧ (s.entry k).held = 0 ∧
        (retireCheck k s).entry j = { s.entry k with state := .vacant } := by
  unfold retireCheck
  split
  · rename_i h
    by_cases hj : j = k
    · subst hj
      exact .inr ⟨rfl, h.1, h.2.1, by simp [vacate]⟩
    · exact .inl (by simp [vacate, State.entry_modifyEntry_ne _ _ hj])
  · exact .inl rfl

/-! ### Storage given back -/

@[simp] theorem freeDesc_pins (d : DescNo) (s : State) : (freeDesc d s).pins = s.pins := by
  unfold freeDesc; split; · rfl
  · simp only; split <;> simp
@[simp] theorem freeDesc_gateNumber (d : DescNo) (s : State) : (freeDesc d s).gateNumber = s.gateNumber := by
  unfold freeDesc; split; · rfl
  · simp only; split <;> simp
@[simp] theorem freeDesc_link (d : DescNo) (s : State) : (freeDesc d s).link = s.link := by
  unfold freeDesc; split; · rfl
  · simp only; split <;> simp
@[simp] theorem freeDesc_idleTimer (d : DescNo) (s : State) : (freeDesc d s).idleTimer = s.idleTimer := by
  unfold freeDesc; split; · rfl
  · simp only; split <;> simp
@[simp] theorem freeDesc_reception (d : DescNo) (s : State) : (freeDesc d s).reception = s.reception := by
  unfold freeDesc; split; · rfl
  · simp only; split <;> simp
@[simp] theorem freeDesc_clock (d : DescNo) (s : State) : (freeDesc d s).clock = s.clock := by
  unfold freeDesc; split; · rfl
  · simp only; split <;> simp
@[simp] theorem freeDesc_laneA (d : DescNo) (s : State) : (freeDesc d s).laneA = s.laneA := by
  unfold freeDesc; split; · rfl
  · simp only; split <;> simp
@[simp] theorem freeDesc_laneB (d : DescNo) (s : State) : (freeDesc d s).laneB = s.laneB := by
  unfold freeDesc; split; · rfl
  · simp only; split <;> simp
@[simp] theorem freeDesc_transitQueue (d : DescNo) (s : State) : (freeDesc d s).transitQueue = s.transitQueue := by
  unfold freeDesc; split; · rfl
  · simp only; split <;> simp
@[simp] theorem freeDesc_stage (d : DescNo) (s : State) : (freeDesc d s).stage = s.stage := by
  unfold freeDesc; split; · rfl
  · simp only; split <;> simp
@[simp] theorem freeDesc_agent (d : DescNo) (s : State) : (freeDesc d s).agent = s.agent := by
  unfold freeDesc; split; · rfl
  · simp only; split <;> simp
@[simp] theorem freeDesc_params (d : DescNo) (s : State) : (freeDesc d s).params = s.params := by
  unfold freeDesc; split; · rfl
  · simp only; split <;> simp
@[simp] theorem freeDesc_trap (d : DescNo) (s : State) : (freeDesc d s).trap = s.trap := by
  unfold freeDesc; split; · rfl
  · simp only; split <;> simp
@[simp] theorem freeDesc_freeCount (d : DescNo) (s : State) : (freeDesc d s).freeCount = s.freeCount := by
  unfold freeDesc; split; · rfl
  · simp only; split <;> simp
@[simp] theorem freeDesc_pending (d : DescNo) (s : State) : (freeDesc d s).pending = s.pending := by
  unfold freeDesc; split; · rfl
  · simp only; split <;> simp

@[simp] theorem leaveLane_pins (l : Lane) (d : DescNo) (s : State) : (leaveLane l d s).pins = s.pins := by
  unfold leaveLane; split; · rfl
  · split <;> simp
@[simp] theorem leaveLane_gateNumber (l : Lane) (d : DescNo) (s : State) : (leaveLane l d s).gateNumber = s.gateNumber := by
  unfold leaveLane; split; · rfl
  · split <;> simp
@[simp] theorem leaveLane_link (l : Lane) (d : DescNo) (s : State) : (leaveLane l d s).link = s.link := by
  unfold leaveLane; split; · rfl
  · split <;> simp
@[simp] theorem leaveLane_idleTimer (l : Lane) (d : DescNo) (s : State) : (leaveLane l d s).idleTimer = s.idleTimer := by
  unfold leaveLane; split; · rfl
  · split <;> simp
@[simp] theorem leaveLane_reception (l : Lane) (d : DescNo) (s : State) : (leaveLane l d s).reception = s.reception := by
  unfold leaveLane; split; · rfl
  · split <;> simp
@[simp] theorem leaveLane_clock (l : Lane) (d : DescNo) (s : State) : (leaveLane l d s).clock = s.clock := by
  unfold leaveLane; split; · rfl
  · split <;> simp
@[simp] theorem leaveLane_laneA (l : Lane) (d : DescNo) (s : State) : (leaveLane l d s).laneA = s.laneA := by
  unfold leaveLane; split; · rfl
  · split <;> simp
@[simp] theorem leaveLane_laneB (l : Lane) (d : DescNo) (s : State) : (leaveLane l d s).laneB = s.laneB := by
  unfold leaveLane; split; · rfl
  · split <;> simp
@[simp] theorem leaveLane_transitQueue (l : Lane) (d : DescNo) (s : State) : (leaveLane l d s).transitQueue = s.transitQueue := by
  unfold leaveLane; split; · rfl
  · split <;> simp
@[simp] theorem leaveLane_stage (l : Lane) (d : DescNo) (s : State) : (leaveLane l d s).stage = s.stage := by
  unfold leaveLane; split; · rfl
  · split <;> simp
@[simp] theorem leaveLane_agent (l : Lane) (d : DescNo) (s : State) : (leaveLane l d s).agent = s.agent := by
  unfold leaveLane; split; · rfl
  · split <;> simp
@[simp] theorem leaveLane_params (l : Lane) (d : DescNo) (s : State) : (leaveLane l d s).params = s.params := by
  unfold leaveLane; split; · rfl
  · split <;> simp
@[simp] theorem leaveLane_trap (l : Lane) (d : DescNo) (s : State) : (leaveLane l d s).trap = s.trap := by
  unfold leaveLane; split; · rfl
  · split <;> simp
@[simp] theorem leaveLane_freeCount (l : Lane) (d : DescNo) (s : State) : (leaveLane l d s).freeCount = s.freeCount := by
  unfold leaveLane; split; · rfl
  · split <;> simp
@[simp] theorem leaveLane_pending (l : Lane) (d : DescNo) (s : State) : (leaveLane l d s).pending = s.pending := by
  unfold leaveLane; split; · rfl
  · split <;> simp

@[simp] theorem dropLane_pins (l : Lane) (d : DescNo) (s : State) : (dropLane l d s).pins = s.pins := by
  unfold dropLane; split; · rfl
  · split <;> simp
@[simp] theorem dropLane_gateNumber (l : Lane) (d : DescNo) (s : State) : (dropLane l d s).gateNumber = s.gateNumber := by
  unfold dropLane; split; · rfl
  · split <;> simp
@[simp] theorem dropLane_link (l : Lane) (d : DescNo) (s : State) : (dropLane l d s).link = s.link := by
  unfold dropLane; split; · rfl
  · split <;> simp
@[simp] theorem dropLane_idleTimer (l : Lane) (d : DescNo) (s : State) : (dropLane l d s).idleTimer = s.idleTimer := by
  unfold dropLane; split; · rfl
  · split <;> simp
@[simp] theorem dropLane_reception (l : Lane) (d : DescNo) (s : State) : (dropLane l d s).reception = s.reception := by
  unfold dropLane; split; · rfl
  · split <;> simp
@[simp] theorem dropLane_clock (l : Lane) (d : DescNo) (s : State) : (dropLane l d s).clock = s.clock := by
  unfold dropLane; split; · rfl
  · split <;> simp
@[simp] theorem dropLane_laneA (l : Lane) (d : DescNo) (s : State) : (dropLane l d s).laneA = s.laneA := by
  unfold dropLane; split; · rfl
  · split <;> simp
@[simp] theorem dropLane_laneB (l : Lane) (d : DescNo) (s : State) : (dropLane l d s).laneB = s.laneB := by
  unfold dropLane; split; · rfl
  · split <;> simp
@[simp] theorem dropLane_transitQueue (l : Lane) (d : DescNo) (s : State) : (dropLane l d s).transitQueue = s.transitQueue := by
  unfold dropLane; split; · rfl
  · split <;> simp
@[simp] theorem dropLane_stage (l : Lane) (d : DescNo) (s : State) : (dropLane l d s).stage = s.stage := by
  unfold dropLane; split; · rfl
  · split <;> simp
@[simp] theorem dropLane_agent (l : Lane) (d : DescNo) (s : State) : (dropLane l d s).agent = s.agent := by
  unfold dropLane; split; · rfl
  · split <;> simp
@[simp] theorem dropLane_params (l : Lane) (d : DescNo) (s : State) : (dropLane l d s).params = s.params := by
  unfold dropLane; split; · rfl
  · split <;> simp
@[simp] theorem dropLane_trap (l : Lane) (d : DescNo) (s : State) : (dropLane l d s).trap = s.trap := by
  unfold dropLane; split; · rfl
  · split <;> simp
@[simp] theorem dropLane_freeCount (l : Lane) (d : DescNo) (s : State) : (dropLane l d s).freeCount = s.freeCount := by
  unfold dropLane; split; · rfl
  · split <;> simp
@[simp] theorem dropLane_pending (l : Lane) (d : DescNo) (s : State) : (dropLane l d s).pending = s.pending := by
  unfold dropLane; split; · rfl
  · split <;> simp

/-- Dropping several descriptors from a lane. -/
theorem foldl_dropLane_frame {α : Type} (proj : State → α) (l : Lane) (h : ∀ d s, proj (dropLane l d s) = proj s)
    (ds : List DescNo) (s : State) : proj (ds.foldl (fun t d => dropLane l d t) s) = proj s := by
  induction ds generalizing s with
  | nil => rfl
  | cons d ds ih => rw [List.foldl_cons, ih, h]

/-! ### The hard reset -/

@[simp] theorem hardReset_pins (s : State) : (hardReset s).pins = s.pins := by
  unfold hardReset laneAfterReset linkAfterReset; split_ifs <;> rfl
@[simp] theorem hardReset_freeCount (s : State) : (hardReset s).freeCount = s.freeCount := by
  unfold hardReset laneAfterReset linkAfterReset; split_ifs <;> rfl
@[simp] theorem hardReset_pending (s : State) : (hardReset s).pending = s.pending := by
  unfold hardReset laneAfterReset linkAfterReset; split_ifs <;> rfl

/-- The gate number after a hard reset is the straps' level (R1). -/
@[simp] theorem hardReset_gateNumber (s : State) : (hardReset s).gateNumber = s.pins.straps := by
  unfold hardReset laneAfterReset linkAfterReset; split_ifs <;> rfl

end Sys2Proof.Machine
end

