-- ==== Sys2Proof/Laws/Lanes.lean ====
section
/-! SUPPORT. What the operations of lanes, clock and Change Stage leave alone, field by field. -/

namespace Sys2Proof.Machine

open Sys2Proof

/-! ### The stall timers judged anew -/

@[simp] theorem syncStall_pins (l : Lane) (s : State) : (syncStall l s).pins = s.pins := by
  simp [syncStall]
@[simp] theorem syncStall_gateNumber (l : Lane) (s : State) : (syncStall l s).gateNumber = s.gateNumber := by
  simp [syncStall]
@[simp] theorem syncStall_link (l : Lane) (s : State) : (syncStall l s).link = s.link := by
  simp [syncStall]
@[simp] theorem syncStall_idleTimer (l : Lane) (s : State) : (syncStall l s).idleTimer = s.idleTimer := by
  simp [syncStall]
@[simp] theorem syncStall_reception (l : Lane) (s : State) : (syncStall l s).reception = s.reception := by
  simp [syncStall]
@[simp] theorem syncStall_table (l : Lane) (s : State) : (syncStall l s).table = s.table := by
  simp [syncStall]
@[simp] theorem syncStall_clock (l : Lane) (s : State) : (syncStall l s).clock = s.clock := by
  simp [syncStall]
@[simp] theorem syncStall_pool (l : Lane) (s : State) : (syncStall l s).pool = s.pool := by
  simp [syncStall]
@[simp] theorem syncStall_transitQueue (l : Lane) (s : State) : (syncStall l s).transitQueue = s.transitQueue := by
  simp [syncStall]
@[simp] theorem syncStall_stage (l : Lane) (s : State) : (syncStall l s).stage = s.stage := by
  simp [syncStall]
@[simp] theorem syncStall_agent (l : Lane) (s : State) : (syncStall l s).agent = s.agent := by
  simp [syncStall]
@[simp] theorem syncStall_params (l : Lane) (s : State) : (syncStall l s).params = s.params := by
  simp [syncStall]
@[simp] theorem syncStall_notices (l : Lane) (s : State) : (syncStall l s).notices = s.notices := by
  simp [syncStall]
@[simp] theorem syncStall_trap (l : Lane) (s : State) : (syncStall l s).trap = s.trap := by
  simp [syncStall]
@[simp] theorem syncStall_counters (l : Lane) (s : State) : (syncStall l s).counters = s.counters := by
  simp [syncStall]
@[simp] theorem syncStall_freeCount (l : Lane) (s : State) : (syncStall l s).freeCount = s.freeCount := by
  simp [syncStall]
@[simp] theorem syncStall_pending (l : Lane) (s : State) : (syncStall l s).pending = s.pending := by
  simp [syncStall]

@[simp] theorem settle_pins (s : State) : (settle s).pins = s.pins := by
  simp [settle]
@[simp] theorem settle_gateNumber (s : State) : (settle s).gateNumber = s.gateNumber := by
  simp [settle]
@[simp] theorem settle_link (s : State) : (settle s).link = s.link := by
  simp [settle]
@[simp] theorem settle_idleTimer (s : State) : (settle s).idleTimer = s.idleTimer := by
  simp [settle]
@[simp] theorem settle_reception (s : State) : (settle s).reception = s.reception := by
  simp [settle]
@[simp] theorem settle_table (s : State) : (settle s).table = s.table := by
  simp [settle]
@[simp] theorem settle_clock (s : State) : (settle s).clock = s.clock := by
  simp [settle]
@[simp] theorem settle_pool (s : State) : (settle s).pool = s.pool := by
  simp [settle]
@[simp] theorem settle_transitQueue (s : State) : (settle s).transitQueue = s.transitQueue := by
  simp [settle]
@[simp] theorem settle_stage (s : State) : (settle s).stage = s.stage := by
  simp [settle]
@[simp] theorem settle_agent (s : State) : (settle s).agent = s.agent := by
  simp [settle]
@[simp] theorem settle_params (s : State) : (settle s).params = s.params := by
  simp [settle]
@[simp] theorem settle_notices (s : State) : (settle s).notices = s.notices := by
  simp [settle]
@[simp] theorem settle_trap (s : State) : (settle s).trap = s.trap := by
  simp [settle]
@[simp] theorem settle_counters (s : State) : (settle s).counters = s.counters := by
  simp [settle]
@[simp] theorem settle_freeCount (s : State) : (settle s).freeCount = s.freeCount := by
  simp [settle]
@[simp] theorem settle_pending (s : State) : (settle s).pending = s.pending := by
  simp [settle]

/-- Judging the stall timers leaves a lane's state, queue and send. -/
@[simp] theorem settle_lane_state (l : Lane) (s : State) : ((settle s).lane l).state = (s.lane l).state := by
  cases l <;> rfl

@[simp] theorem settle_lane_releaseQueue (l : Lane) (s : State) :
    ((settle s).lane l).releaseQueue = (s.lane l).releaseQueue := by cases l <;> rfl

@[simp] theorem settle_lane_sending (l : Lane) (s : State) : ((settle s).lane l).sending = (s.lane l).sending := by
  cases l <;> rfl

@[simp] theorem settle_blocked (l : Lane) (s : State) : (settle s).blocked l = s.blocked l := by
  simp [State.blocked]

@[simp] theorem settle_desc (d : DescNo) (s : State) : (settle s).desc d = s.desc d := by simp [State.desc]

@[simp] theorem settle_entry (k : Slot) (s : State) : (settle s).entry k = s.entry k := by simp [State.entry]

/-- The candidates of a lane do not depend on the stall timers. -/
@[simp] theorem settle_candidates (l : Lane) (s : State) : candidates l (settle s) = candidates l s := by
  simp only [candidates, gateCandidate, noticeCandidate, dueNotice, noticesHeld, transitCandidate, dataCandidate,
    settle_params, settle_agent, settle_notices, settle_clock, settle_transitQueue, settle_blocked,
    settle_lane_releaseQueue, settle_desc]
  rfl

@[simp] theorem settle_hasCandidate (l : Lane) (s : State) : hasCandidate l (settle s) = hasCandidate l s := by
  simp [hasCandidate]

/-! ### The passing of time -/

@[simp] theorem elapse_pins (n : Nat) (s : State) : (elapse n s).pins = s.pins := by
  rfl
@[simp] theorem elapse_gateNumber (n : Nat) (s : State) : (elapse n s).gateNumber = s.gateNumber := by
  rfl
@[simp] theorem elapse_link (n : Nat) (s : State) : (elapse n s).link = s.link := by
  rfl
@[simp] theorem elapse_reception (n : Nat) (s : State) : (elapse n s).reception = s.reception := by
  rfl
@[simp] theorem elapse_table (n : Nat) (s : State) : (elapse n s).table = s.table := by
  rfl
@[simp] theorem elapse_pool (n : Nat) (s : State) : (elapse n s).pool = s.pool := by
  rfl
@[simp] theorem elapse_transitQueue (n : Nat) (s : State) : (elapse n s).transitQueue = s.transitQueue := by
  rfl
@[simp] theorem elapse_params (n : Nat) (s : State) : (elapse n s).params = s.params := by
  rfl
@[simp] theorem elapse_trap (n : Nat) (s : State) : (elapse n s).trap = s.trap := by
  rfl
@[simp] theorem elapse_counters (n : Nat) (s : State) : (elapse n s).counters = s.counters := by
  rfl
@[simp] theorem elapse_freeCount (n : Nat) (s : State) : (elapse n s).freeCount = s.freeCount := by
  rfl
@[simp] theorem elapse_pending (n : Nat) (s : State) : (elapse n s).pending = s.pending := by
  rfl

@[simp] theorem elapse_lane_state (n : Nat) (l : Lane) (s : State) : ((elapse n s).lane l).state = (s.lane l).state := by
  cases l <;> rfl

@[simp] theorem elapse_lane_releaseQueue (n : Nat) (l : Lane) (s : State) :
    ((elapse n s).lane l).releaseQueue = (s.lane l).releaseQueue := by cases l <;> rfl

@[simp] theorem elapse_stage_changes (n : Nat) (s : State) : (elapse n s).stage.changes = s.stage.changes := rfl

@[simp] theorem elapse_stage_owner (n : Nat) (s : State) : (elapse n s).stage.owner = s.stage.owner := rfl

@[simp] theorem elapse_stage_commit (n : Nat) (s : State) : (elapse n s).stage.commit = s.stage.commit := rfl

@[simp] theorem elapse_clock_state (n : Nat) (s : State) : (elapse n s).clock.state = s.clock.state := rfl

@[simp] theorem elapse_agent_state (n : Nat) (s : State) : (elapse n s).agent.state = s.agent.state := rfl

@[simp] theorem elapse_agent_requests (n : Nat) (s : State) : (elapse n s).agent.requests = s.agent.requests := rfl

@[simp] theorem elapse_agent_replies (n : Nat) (s : State) : (elapse n s).agent.replies = s.agent.replies := rfl

@[simp] theorem elapse_agent_managers (n : Nat) (s : State) : (elapse n s).agent.managers = s.agent.managers := rfl

/-- In no period the count stays. -/
theorem clockAfter_zero {c : Clock} (h : c.slew < 4096) : (clockAfter c 0).time = c.time := by
  have hu : slewUnits c 0 = 0 := by simp [slewUnits, slewPeriods, Nat.div_eq_of_lt h]
  simp [clockAfter, countAdvance, hu]

/-! ### Notices of the lanes -/

@[simp] theorem compareRetries_pins (s : State) : (compareRetries s).pins = s.pins := by
  rfl
@[simp] theorem compareRetries_gateNumber (s : State) : (compareRetries s).gateNumber = s.gateNumber := by
  rfl
@[simp] theorem compareRetries_link (s : State) : (compareRetries s).link = s.link := by
  rfl
@[simp] theorem compareRetries_idleTimer (s : State) : (compareRetries s).idleTimer = s.idleTimer := by
  rfl
@[simp] theorem compareRetries_reception (s : State) : (compareRetries s).reception = s.reception := by
  rfl
@[simp] theorem compareRetries_table (s : State) : (compareRetries s).table = s.table := by
  rfl
@[simp] theorem compareRetries_clock (s : State) : (compareRetries s).clock = s.clock := by
  rfl
@[simp] theorem compareRetries_pool (s : State) : (compareRetries s).pool = s.pool := by
  rfl
@[simp] theorem compareRetries_laneA (s : State) : (compareRetries s).laneA = s.laneA := by
  rfl
@[simp] theorem compareRetries_laneB (s : State) : (compareRetries s).laneB = s.laneB := by
  rfl
@[simp] theorem compareRetries_transitQueue (s : State) : (compareRetries s).transitQueue = s.transitQueue := by
  rfl
@[simp] theorem compareRetries_stage (s : State) : (compareRetries s).stage = s.stage := by
  rfl
@[simp] theorem compareRetries_agent (s : State) : (compareRetries s).agent = s.agent := by
  rfl
@[simp] theorem compareRetries_params (s : State) : (compareRetries s).params = s.params := by
  rfl
@[simp] theorem compareRetries_trap (s : State) : (compareRetries s).trap = s.trap := by
  rfl
@[simp] theorem compareRetries_counters (s : State) : (compareRetries s).counters = s.counters := by
  rfl
@[simp] theorem compareRetries_freeCount (s : State) : (compareRetries s).freeCount = s.freeCount := by
  rfl
@[simp] theorem compareRetries_pending (s : State) : (compareRetries s).pending = s.pending := by
  rfl

@[simp] theorem noticeSendEnd_pins (sequence : BitVec 16) (s : State) : (noticeSendEnd sequence s).pins = s.pins := by
  unfold noticeSendEnd; split
  · rfl
  · split <;> first | rfl | (split_ifs <;> rfl)
@[simp] theorem noticeSendEnd_gateNumber (sequence : BitVec 16) (s : State) : (noticeSendEnd sequence s).gateNumber = s.gateNumber := by
  unfold noticeSendEnd; split
  · rfl
  · split <;> first | rfl | (split_ifs <;> rfl)
@[simp] theorem noticeSendEnd_link (sequence : BitVec 16) (s : State) : (noticeSendEnd sequence s).link = s.link := by
  unfold noticeSendEnd; split
  · rfl
  · split <;> first | rfl | (split_ifs <;> rfl)
@[simp] theorem noticeSendEnd_idleTimer (sequence : BitVec 16) (s : State) : (noticeSendEnd sequence s).idleTimer = s.idleTimer := by
  unfold noticeSendEnd; split
  · rfl
  · split <;> first | rfl | (split_ifs <;> rfl)
@[simp] theorem noticeSendEnd_reception (sequence : BitVec 16) (s : State) : (noticeSendEnd sequence s).reception = s.reception := by
  unfold noticeSendEnd; split
  · rfl
  · split <;> first | rfl | (split_ifs <;> rfl)
@[simp] theorem noticeSendEnd_table (sequence : BitVec 16) (s : State) : (noticeSendEnd sequence s).table = s.table := by
  unfold noticeSendEnd; split
  · rfl
  · split <;> first | rfl | (split_ifs <;> rfl)
@[simp] theorem noticeSendEnd_clock (sequence : BitVec 16) (s : State) : (noticeSendEnd sequence s).clock = s.clock := by
  unfold noticeSendEnd; split
  · rfl
  · split <;> first | rfl | (split_ifs <;> rfl)
@[simp] theorem noticeSendEnd_pool (sequence : BitVec 16) (s : State) : (noticeSendEnd sequence s).pool = s.pool := by
  unfold noticeSendEnd; split
  · rfl
  · split <;> first | rfl | (split_ifs <;> rfl)
@[simp] theorem noticeSendEnd_laneA (sequence : BitVec 16) (s : State) : (noticeSendEnd sequence s).laneA = s.laneA := by
  unfold noticeSendEnd; split
  · rfl
  · split <;> first | rfl | (split_ifs <;> rfl)
@[simp] theorem noticeSendEnd_laneB (sequence : BitVec 16) (s : State) : (noticeSendEnd sequence s).laneB = s.laneB := by
  unfold noticeSendEnd; split
  · rfl
  · split <;> first | rfl | (split_ifs <;> rfl)
@[simp] theorem noticeSendEnd_transitQueue (sequence : BitVec 16) (s : State) : (noticeSendEnd sequence s).transitQueue = s.transitQueue := by
  unfold noticeSendEnd; split
  · rfl
  · split <;> first | rfl | (split_ifs <;> rfl)
@[simp] theorem noticeSendEnd_stage (sequence : BitVec 16) (s : State) : (noticeSendEnd sequence s).stage = s.stage := by
  unfold noticeSendEnd; split
  · rfl
  · split <;> first | rfl | (split_ifs <;> rfl)
@[simp] theorem noticeSendEnd_agent (sequence : BitVec 16) (s : State) : (noticeSendEnd sequence s).agent = s.agent := by
  unfold noticeSendEnd; split
  · rfl
  · split <;> first | rfl | (split_ifs <;> rfl)
@[simp] theorem noticeSendEnd_params (sequence : BitVec 16) (s : State) : (noticeSendEnd sequence s).params = s.params := by
  unfold noticeSendEnd; split
  · rfl
  · split <;> first | rfl | (split_ifs <;> rfl)
@[simp] theorem noticeSendEnd_trap (sequence : BitVec 16) (s : State) : (noticeSendEnd sequence s).trap = s.trap := by
  unfold noticeSendEnd; split
  · rfl
  · split <;> first | rfl | (split_ifs <;> rfl)
@[simp] theorem noticeSendEnd_freeCount (sequence : BitVec 16) (s : State) : (noticeSendEnd sequence s).freeCount = s.freeCount := by
  unfold noticeSendEnd; split
  · rfl
  · split <;> first | rfl | (split_ifs <;> rfl)
@[simp] theorem noticeSendEnd_pending (sequence : BitVec 16) (s : State) : (noticeSendEnd sequence s).pending = s.pending := by
  unfold noticeSendEnd; split
  · rfl
  · split <;> first | rfl | (split_ifs <;> rfl)

/-! ### Entry into BLOCKED -/

@[simp] theorem closeLane_pins (l : Lane) (s : State) : (closeLane l s).pins = s.pins := by
  cases l <;> rfl
@[simp] theorem closeLane_gateNumber (l : Lane) (s : State) : (closeLane l s).gateNumber = s.gateNumber := by
  cases l <;> rfl
@[simp] theorem closeLane_link (l : Lane) (s : State) : (closeLane l s).link = s.link := by
  cases l <;> rfl
@[simp] theorem closeLane_idleTimer (l : Lane) (s : State) : (closeLane l s).idleTimer = s.idleTimer := by
  cases l <;> rfl
@[simp] theorem closeLane_reception (l : Lane) (s : State) : (closeLane l s).reception = s.reception := by
  cases l <;> rfl
@[simp] theorem closeLane_table (l : Lane) (s : State) : (closeLane l s).table = s.table := by
  cases l <;> rfl
@[simp] theorem closeLane_clock (l : Lane) (s : State) : (closeLane l s).clock = s.clock := by
  cases l <;> rfl
@[simp] theorem closeLane_pool (l : Lane) (s : State) : (closeLane l s).pool = s.pool := by
  cases l <;> rfl
@[simp] theorem closeLane_stage (l : Lane) (s : State) : (closeLane l s).stage = s.stage := by
  cases l <;> rfl
@[simp] theorem closeLane_agent (l : Lane) (s : State) : (closeLane l s).agent = s.agent := by
  cases l <;> rfl
@[simp] theorem closeLane_params (l : Lane) (s : State) : (closeLane l s).params = s.params := by
  cases l <;> rfl
@[simp] theorem closeLane_notices (l : Lane) (s : State) : (closeLane l s).notices = s.notices := by
  cases l <;> rfl
@[simp] theorem closeLane_trap (l : Lane) (s : State) : (closeLane l s).trap = s.trap := by
  cases l <;> rfl
@[simp] theorem closeLane_counters (l : Lane) (s : State) : (closeLane l s).counters = s.counters := by
  cases l <;> rfl
@[simp] theorem closeLane_freeCount (l : Lane) (s : State) : (closeLane l s).freeCount = s.freeCount := by
  cases l <;> rfl
@[simp] theorem closeLane_pending (l : Lane) (s : State) : (closeLane l s).pending = s.pending := by
  cases l <;> rfl

@[simp] theorem discardReplies_pins (s : State) : (discardReplies s).pins = s.pins := by
  rfl
@[simp] theorem discardReplies_gateNumber (s : State) : (discardReplies s).gateNumber = s.gateNumber := by
  rfl
@[simp] theorem discardReplies_link (s : State) : (discardReplies s).link = s.link := by
  rfl
@[simp] theorem discardReplies_idleTimer (s : State) : (discardReplies s).idleTimer = s.idleTimer := by
  rfl
@[simp] theorem discardReplies_reception (s : State) : (discardReplies s).reception = s.reception := by
  rfl
@[simp] theorem discardReplies_table (s : State) : (discardReplies s).table = s.table := by
  rfl
@[simp] theorem discardReplies_clock (s : State) : (discardReplies s).clock = s.clock := by
  rfl
@[simp] theorem discardReplies_pool (s : State) : (discardReplies s).pool = s.pool := by
  rfl
@[simp] theorem discardReplies_laneA (s : State) : (discardReplies s).laneA = s.laneA := by
  rfl
@[simp] theorem discardReplies_laneB (s : State) : (discardReplies s).laneB = s.laneB := by
  rfl
@[simp] theorem discardReplies_transitQueue (s : State) : (discardReplies s).transitQueue = s.transitQueue := by
  rfl
@[simp] theorem discardReplies_stage (s : State) : (discardReplies s).stage = s.stage := by
  rfl
@[simp] theorem discardReplies_params (s : State) : (discardReplies s).params = s.params := by
  rfl
@[simp] theorem discardReplies_notices (s : State) : (discardReplies s).notices = s.notices := by
  rfl
@[simp] theorem discardReplies_trap (s : State) : (discardReplies s).trap = s.trap := by
  rfl
@[simp] theorem discardReplies_freeCount (s : State) : (discardReplies s).freeCount = s.freeCount := by
  rfl
@[simp] theorem discardReplies_pending (s : State) : (discardReplies s).pending = s.pending := by
  rfl

@[simp] theorem enterBlocked_pins (l : Lane) (cause : BlockCause) (s : State) :
    (enterBlocked l cause s).pins = s.pins := by
  have h := foldl_dropLane_frame State.pins l (fun d s => dropLane_pins l d s) (laneQueues l s) (closeLane l s)
  unfold enterBlocked
  simp only
  split <;> simp [h]
@[simp] theorem enterBlocked_gateNumber (l : Lane) (cause : BlockCause) (s : State) :
    (enterBlocked l cause s).gateNumber = s.gateNumber := by
  have h := foldl_dropLane_frame State.gateNumber l (fun d s => dropLane_gateNumber l d s) (laneQueues l s) (closeLane l s)
  unfold enterBlocked
  simp only
  split <;> simp [h]
@[simp] theorem enterBlocked_link (l : Lane) (cause : BlockCause) (s : State) :
    (enterBlocked l cause s).link = s.link := by
  have h := foldl_dropLane_frame State.link l (fun d s => dropLane_link l d s) (laneQueues l s) (closeLane l s)
  unfold enterBlocked
  simp only
  split <;> simp [h]
@[simp] theorem enterBlocked_idleTimer (l : Lane) (cause : BlockCause) (s : State) :
    (enterBlocked l cause s).idleTimer = s.idleTimer := by
  have h := foldl_dropLane_frame State.idleTimer l (fun d s => dropLane_idleTimer l d s) (laneQueues l s) (closeLane l s)
  unfold enterBlocked
  simp only
  split <;> simp [h]
@[simp] theorem enterBlocked_reception (l : Lane) (cause : BlockCause) (s : State) :
    (enterBlocked l cause s).reception = s.reception := by
  have h := foldl_dropLane_frame State.reception l (fun d s => dropLane_reception l d s) (laneQueues l s) (closeLane l s)
  unfold enterBlocked
  simp only
  split <;> simp [h]
@[simp] theorem enterBlocked_clock (l : Lane) (cause : BlockCause) (s : State) :
    (enterBlocked l cause s).clock = s.clock := by
  have h := foldl_dropLane_frame State.clock l (fun d s => dropLane_clock l d s) (laneQueues l s) (closeLane l s)
  unfold enterBlocked
  simp only
  split <;> simp [h]
@[simp] theorem enterBlocked_stage (l : Lane) (cause : BlockCause) (s : State) :
    (enterBlocked l cause s).stage = s.stage := by
  have h := foldl_dropLane_frame State.stage l (fun d s => dropLane_stage l d s) (laneQueues l s) (closeLane l s)
  unfold enterBlocked
  simp only
  split <;> simp [h]
@[simp] theorem enterBlocked_params (l : Lane) (cause : BlockCause) (s : State) :
    (enterBlocked l cause s).params = s.params := by
  have h := foldl_dropLane_frame State.params l (fun d s => dropLane_params l d s) (laneQueues l s) (closeLane l s)
  unfold enterBlocked
  simp only
  split <;> simp [h]
@[simp] theorem enterBlocked_trap (l : Lane) (cause : BlockCause) (s : State) :
    (enterBlocked l cause s).trap = s.trap := by
  have h := foldl_dropLane_frame State.trap l (fun d s => dropLane_trap l d s) (laneQueues l s) (closeLane l s)
  unfold enterBlocked
  simp only
  split <;> simp [h]
@[simp] theorem enterBlocked_freeCount (l : Lane) (cause : BlockCause) (s : State) :
    (enterBlocked l cause s).freeCount = s.freeCount := by
  have h := foldl_dropLane_frame State.freeCount l (fun d s => dropLane_freeCount l d s) (laneQueues l s) (closeLane l s)
  unfold enterBlocked
  simp only
  split <;> simp [h]
@[simp] theorem enterBlocked_pending (l : Lane) (cause : BlockCause) (s : State) :
    (enterBlocked l cause s).pending = s.pending := by
  have h := foldl_dropLane_frame State.pending l (fun d s => dropLane_pending l d s) (laneQueues l s) (closeLane l s)
  unfold enterBlocked
  simp only
  split <;> simp [h]

/-! ### The Change Stage -/

@[simp] theorem restartStaging_pins (m : Byte) (s : State) : (restartStaging m s).pins = s.pins := by
  unfold restartStaging; split <;> rfl
@[simp] theorem restartStaging_gateNumber (m : Byte) (s : State) : (restartStaging m s).gateNumber = s.gateNumber := by
  unfold restartStaging; split <;> rfl
@[simp] theorem restartStaging_link (m : Byte) (s : State) : (restartStaging m s).link = s.link := by
  unfold restartStaging; split <;> rfl
@[simp] theorem restartStaging_idleTimer (m : Byte) (s : State) : (restartStaging m s).idleTimer = s.idleTimer := by
  unfold restartStaging; split <;> rfl
@[simp] theorem restartStaging_reception (m : Byte) (s : State) : (restartStaging m s).reception = s.reception := by
  unfold restartStaging; split <;> rfl
@[simp] theorem restartStaging_table (m : Byte) (s : State) : (restartStaging m s).table = s.table := by
  unfold restartStaging; split <;> rfl
@[simp] theorem restartStaging_clock (m : Byte) (s : State) : (restartStaging m s).clock = s.clock := by
  unfold restartStaging; split <;> rfl
@[simp] theorem restartStaging_pool (m : Byte) (s : State) : (restartStaging m s).pool = s.pool := by
  unfold restartStaging; split <;> rfl
@[simp] theorem restartStaging_laneA (m : Byte) (s : State) : (restartStaging m s).laneA = s.laneA := by
  unfold restartStaging; split <;> rfl
@[simp] theorem restartStaging_laneB (m : Byte) (s : State) : (restartStaging m s).laneB = s.laneB := by
  unfold restartStaging; split <;> rfl
@[simp] theorem restartStaging_transitQueue (m : Byte) (s : State) : (restartStaging m s).transitQueue = s.transitQueue := by
  unfold restartStaging; split <;> rfl
@[simp] theorem restartStaging_agent (m : Byte) (s : State) : (restartStaging m s).agent = s.agent := by
  unfold restartStaging; split <;> rfl
@[simp] theorem restartStaging_params (m : Byte) (s : State) : (restartStaging m s).params = s.params := by
  unfold restartStaging; split <;> rfl
@[simp] theorem restartStaging_notices (m : Byte) (s : State) : (restartStaging m s).notices = s.notices := by
  unfold restartStaging; split <;> rfl
@[simp] theorem restartStaging_trap (m : Byte) (s : State) : (restartStaging m s).trap = s.trap := by
  unfold restartStaging; split <;> rfl
@[simp] theorem restartStaging_counters (m : Byte) (s : State) : (restartStaging m s).counters = s.counters := by
  unfold restartStaging; split <;> rfl
@[simp] theorem restartStaging_freeCount (m : Byte) (s : State) : (restartStaging m s).freeCount = s.freeCount := by
  unfold restartStaging; split <;> rfl
@[simp] theorem restartStaging_pending (m : Byte) (s : State) : (restartStaging m s).pending = s.pending := by
  unfold restartStaging; split <;> rfl

@[simp] theorem restartStaging_changes (m : Byte) (s : State) :
    (restartStaging m s).stage.changes = s.stage.changes := by unfold restartStaging; split <;> rfl

@[simp] theorem restartStaging_owner (m : Byte) (s : State) : (restartStaging m s).stage.owner = s.stage.owner := by
  unfold restartStaging; split <;> rfl

@[simp] theorem restartStaging_commit (m : Byte) (s : State) : (restartStaging m s).stage.commit = s.stage.commit := by
  unfold restartStaging; split <;> rfl

@[simp] theorem stagingExpired_pins (s : State) : (stagingExpired s).pins = s.pins := by
  simp [stagingExpired]
@[simp] theorem stagingExpired_gateNumber (s : State) : (stagingExpired s).gateNumber = s.gateNumber := by
  simp [stagingExpired]
@[simp] theorem stagingExpired_link (s : State) : (stagingExpired s).link = s.link := by
  simp [stagingExpired]
@[simp] theorem stagingExpired_idleTimer (s : State) : (stagingExpired s).idleTimer = s.idleTimer := by
  simp [stagingExpired]
@[simp] theorem stagingExpired_reception (s : State) : (stagingExpired s).reception = s.reception := by
  simp [stagingExpired]
@[simp] theorem stagingExpired_table (s : State) : (stagingExpired s).table = s.table := by
  simp [stagingExpired]
@[simp] theorem stagingExpired_clock (s : State) : (stagingExpired s).clock = s.clock := by
  simp [stagingExpired]
@[simp] theorem stagingExpired_pool (s : State) : (stagingExpired s).pool = s.pool := by
  simp [stagingExpired]
@[simp] theorem stagingExpired_laneA (s : State) : (stagingExpired s).laneA = s.laneA := by
  simp [stagingExpired]
@[simp] theorem stagingExpired_laneB (s : State) : (stagingExpired s).laneB = s.laneB := by
  simp [stagingExpired]
@[simp] theorem stagingExpired_transitQueue (s : State) : (stagingExpired s).transitQueue = s.transitQueue := by
  simp [stagingExpired]
@[simp] theorem stagingExpired_agent (s : State) : (stagingExpired s).agent = s.agent := by
  simp [stagingExpired]
@[simp] theorem stagingExpired_params (s : State) : (stagingExpired s).params = s.params := by
  simp [stagingExpired]
@[simp] theorem stagingExpired_trap (s : State) : (stagingExpired s).trap = s.trap := by
  simp [stagingExpired]
@[simp] theorem stagingExpired_freeCount (s : State) : (stagingExpired s).freeCount = s.freeCount := by
  simp [stagingExpired]
@[simp] theorem stagingExpired_pending (s : State) : (stagingExpired s).pending = s.pending := by
  simp [stagingExpired]

@[simp] theorem retireEntry_pins (k : Slot) (s : State) : (retireEntry k s).pins = s.pins := by
  unfold retireEntry; split <;> simp
@[simp] theorem retireEntry_gateNumber (k : Slot) (s : State) : (retireEntry k s).gateNumber = s.gateNumber := by
  unfold retireEntry; split <;> simp
@[simp] theorem retireEntry_link (k : Slot) (s : State) : (retireEntry k s).link = s.link := by
  unfold retireEntry; split <;> simp
@[simp] theorem retireEntry_idleTimer (k : Slot) (s : State) : (retireEntry k s).idleTimer = s.idleTimer := by
  unfold retireEntry; split <;> simp
@[simp] theorem retireEntry_reception (k : Slot) (s : State) : (retireEntry k s).reception = s.reception := by
  unfold retireEntry; split <;> simp
@[simp] theorem retireEntry_clock (k : Slot) (s : State) : (retireEntry k s).clock = s.clock := by
  unfold retireEntry; split <;> simp
@[simp] theorem retireEntry_pool (k : Slot) (s : State) : (retireEntry k s).pool = s.pool := by
  unfold retireEntry; split <;> simp
@[simp] theorem retireEntry_laneA (k : Slot) (s : State) : (retireEntry k s).laneA = s.laneA := by
  unfold retireEntry; split <;> simp
@[simp] theorem retireEntry_laneB (k : Slot) (s : State) : (retireEntry k s).laneB = s.laneB := by
  unfold retireEntry; split <;> simp
@[simp] theorem retireEntry_transitQueue (k : Slot) (s : State) : (retireEntry k s).transitQueue = s.transitQueue := by
  unfold retireEntry; split <;> simp
@[simp] theorem retireEntry_stage (k : Slot) (s : State) : (retireEntry k s).stage = s.stage := by
  unfold retireEntry; split <;> simp
@[simp] theorem retireEntry_agent (k : Slot) (s : State) : (retireEntry k s).agent = s.agent := by
  unfold retireEntry; split <;> simp
@[simp] theorem retireEntry_params (k : Slot) (s : State) : (retireEntry k s).params = s.params := by
  unfold retireEntry; split <;> simp
@[simp] theorem retireEntry_trap (k : Slot) (s : State) : (retireEntry k s).trap = s.trap := by
  unfold retireEntry; split <;> simp
@[simp] theorem retireEntry_freeCount (k : Slot) (s : State) : (retireEntry k s).freeCount = s.freeCount := by
  unfold retireEntry; split <;> simp
@[simp] theorem retireEntry_pending (k : Slot) (s : State) : (retireEntry k s).pending = s.pending := by
  unfold retireEntry; split <;> simp

@[simp] theorem applyChange_pins (s : State) (c : Change) : (applyChange s c).pins = s.pins := by
  cases c <;> simp [applyChange]
@[simp] theorem applyChange_gateNumber (s : State) (c : Change) : (applyChange s c).gateNumber = s.gateNumber := by
  cases c <;> simp [applyChange]
@[simp] theorem applyChange_link (s : State) (c : Change) : (applyChange s c).link = s.link := by
  cases c <;> simp [applyChange]
@[simp] theorem applyChange_idleTimer (s : State) (c : Change) : (applyChange s c).idleTimer = s.idleTimer := by
  cases c <;> simp [applyChange]
@[simp] theorem applyChange_reception (s : State) (c : Change) : (applyChange s c).reception = s.reception := by
  cases c <;> simp [applyChange]
@[simp] theorem applyChange_clock (s : State) (c : Change) : (applyChange s c).clock = s.clock := by
  cases c <;> simp [applyChange]
@[simp] theorem applyChange_pool (s : State) (c : Change) : (applyChange s c).pool = s.pool := by
  cases c <;> simp [applyChange]
@[simp] theorem applyChange_laneA (s : State) (c : Change) : (applyChange s c).laneA = s.laneA := by
  cases c <;> simp [applyChange]
@[simp] theorem applyChange_laneB (s : State) (c : Change) : (applyChange s c).laneB = s.laneB := by
  cases c <;> simp [applyChange]
@[simp] theorem applyChange_transitQueue (s : State) (c : Change) : (applyChange s c).transitQueue = s.transitQueue := by
  cases c <;> simp [applyChange]
@[simp] theorem applyChange_stage (s : State) (c : Change) : (applyChange s c).stage = s.stage := by
  cases c <;> simp [applyChange]
@[simp] theorem applyChange_agent (s : State) (c : Change) : (applyChange s c).agent = s.agent := by
  cases c <;> simp [applyChange]
@[simp] theorem applyChange_params (s : State) (c : Change) : (applyChange s c).params = s.params := by
  cases c <;> simp [applyChange]
@[simp] theorem applyChange_trap (s : State) (c : Change) : (applyChange s c).trap = s.trap := by
  cases c <;> simp [applyChange]
@[simp] theorem applyChange_freeCount (s : State) (c : Change) : (applyChange s c).freeCount = s.freeCount := by
  cases c <;> simp [applyChange]
@[simp] theorem applyChange_pending (s : State) (c : Change) : (applyChange s c).pending = s.pending := by
  cases c <;> simp [applyChange]

/-- Applying several changes. -/
theorem foldl_applyChange_frame {α : Type} (proj : State → α) (h : ∀ s c, proj (applyChange s c) = proj s)
    (cs : List Change) (s : State) : proj (cs.foldl applyChange s) = proj s := by
  induction cs generalizing s with
  | nil => rfl
  | cons c cs ih => rw [List.foldl_cons, ih, h]

/-- A change touches only the slot it names. -/
theorem applyChange_entry_ne {s : State} {c : Change} {k : Slot} (h : k ≠ c.slot) :
    (applyChange s c).entry k = s.entry k := by
  cases c with
  | setEntry j into config reset => exact State.entry_modifyEntry_ne s _ h
  | retire j =>
    have hk : k ≠ j := h
    simp only [applyChange, retireEntry]
    split
    · simp [vacate, State.entry_modifyEntry_ne s _ hk]
    · exact State.entry_modifyEntry_ne s _ hk

@[simp] theorem applyChanges_pins (s : State) : (applyChanges s).pins = s.pins :=
  foldl_applyChange_frame State.pins applyChange_pins s.stage.changes s
@[simp] theorem applyChanges_gateNumber (s : State) : (applyChanges s).gateNumber = s.gateNumber :=
  foldl_applyChange_frame State.gateNumber applyChange_gateNumber s.stage.changes s
@[simp] theorem applyChanges_link (s : State) : (applyChanges s).link = s.link :=
  foldl_applyChange_frame State.link applyChange_link s.stage.changes s
@[simp] theorem applyChanges_idleTimer (s : State) : (applyChanges s).idleTimer = s.idleTimer :=
  foldl_applyChange_frame State.idleTimer applyChange_idleTimer s.stage.changes s
@[simp] theorem applyChanges_reception (s : State) : (applyChanges s).reception = s.reception :=
  foldl_applyChange_frame State.reception applyChange_reception s.stage.changes s
@[simp] theorem applyChanges_clock (s : State) : (applyChanges s).clock = s.clock :=
  foldl_applyChange_frame State.clock applyChange_clock s.stage.changes s
@[simp] theorem applyChanges_pool (s : State) : (applyChanges s).pool = s.pool :=
  foldl_applyChange_frame State.pool applyChange_pool s.stage.changes s
@[simp] theorem applyChanges_laneA (s : State) : (applyChanges s).laneA = s.laneA :=
  foldl_applyChange_frame State.laneA applyChange_laneA s.stage.changes s
@[simp] theorem applyChanges_laneB (s : State) : (applyChanges s).laneB = s.laneB :=
  foldl_applyChange_frame State.laneB applyChange_laneB s.stage.changes s
@[simp] theorem applyChanges_transitQueue (s : State) : (applyChanges s).transitQueue = s.transitQueue :=
  foldl_applyChange_frame State.transitQueue applyChange_transitQueue s.stage.changes s
@[simp] theorem applyChanges_agent (s : State) : (applyChanges s).agent = s.agent :=
  foldl_applyChange_frame State.agent applyChange_agent s.stage.changes s
@[simp] theorem applyChanges_params (s : State) : (applyChanges s).params = s.params :=
  foldl_applyChange_frame State.params applyChange_params s.stage.changes s
@[simp] theorem applyChanges_trap (s : State) : (applyChanges s).trap = s.trap :=
  foldl_applyChange_frame State.trap applyChange_trap s.stage.changes s
@[simp] theorem applyChanges_freeCount (s : State) : (applyChanges s).freeCount = s.freeCount :=
  foldl_applyChange_frame State.freeCount applyChange_freeCount s.stage.changes s
@[simp] theorem applyChanges_pending (s : State) : (applyChanges s).pending = s.pending :=
  foldl_applyChange_frame State.pending applyChange_pending s.stage.changes s

@[simp] theorem applyChanges_stage (s : State) : (applyChanges s).stage = emptyStage := rfl

@[simp] theorem commitSignal_pins (s : State) : (commitSignal s).pins = s.pins := by
  unfold commitSignal; split <;> simp
@[simp] theorem commitSignal_gateNumber (s : State) : (commitSignal s).gateNumber = s.gateNumber := by
  unfold commitSignal; split <;> simp
@[simp] theorem commitSignal_link (s : State) : (commitSignal s).link = s.link := by
  unfold commitSignal; split <;> simp
@[simp] theorem commitSignal_idleTimer (s : State) : (commitSignal s).idleTimer = s.idleTimer := by
  unfold commitSignal; split <;> simp
@[simp] theorem commitSignal_reception (s : State) : (commitSignal s).reception = s.reception := by
  unfold commitSignal; split <;> simp
@[simp] theorem commitSignal_clock (s : State) : (commitSignal s).clock = s.clock := by
  unfold commitSignal; split <;> simp
@[simp] theorem commitSignal_pool (s : State) : (commitSignal s).pool = s.pool := by
  unfold commitSignal; split <;> simp
@[simp] theorem commitSignal_laneA (s : State) : (commitSignal s).laneA = s.laneA := by
  unfold commitSignal; split <;> simp
@[simp] theorem commitSignal_laneB (s : State) : (commitSignal s).laneB = s.laneB := by
  unfold commitSignal; split <;> simp
@[simp] theorem commitSignal_transitQueue (s : State) : (commitSignal s).transitQueue = s.transitQueue := by
  unfold commitSignal; split <;> simp
@[simp] theorem commitSignal_agent (s : State) : (commitSignal s).agent = s.agent := by
  unfold commitSignal; split <;> simp
@[simp] theorem commitSignal_params (s : State) : (commitSignal s).params = s.params := by
  unfold commitSignal; split <;> simp
@[simp] theorem commitSignal_trap (s : State) : (commitSignal s).trap = s.trap := by
  unfold commitSignal; split <;> simp
@[simp] theorem commitSignal_freeCount (s : State) : (commitSignal s).freeCount = s.freeCount := by
  unfold commitSignal; split <;> simp
@[simp] theorem commitSignal_pending (s : State) : (commitSignal s).pending = s.pending := by
  unfold commitSignal; split <;> simp

@[simp] theorem watchCommit_pins (s : State) : (watchCommit s).pins = s.pins := by
  unfold watchCommit; split
  · rfl
  · split <;> simp
@[simp] theorem watchCommit_gateNumber (s : State) : (watchCommit s).gateNumber = s.gateNumber := by
  unfold watchCommit; split
  · rfl
  · split <;> simp
@[simp] theorem watchCommit_link (s : State) : (watchCommit s).link = s.link := by
  unfold watchCommit; split
  · rfl
  · split <;> simp
@[simp] theorem watchCommit_idleTimer (s : State) : (watchCommit s).idleTimer = s.idleTimer := by
  unfold watchCommit; split
  · rfl
  · split <;> simp
@[simp] theorem watchCommit_reception (s : State) : (watchCommit s).reception = s.reception := by
  unfold watchCommit; split
  · rfl
  · split <;> simp
@[simp] theorem watchCommit_clock (s : State) : (watchCommit s).clock = s.clock := by
  unfold watchCommit; split
  · rfl
  · split <;> simp
@[simp] theorem watchCommit_pool (s : State) : (watchCommit s).pool = s.pool := by
  unfold watchCommit; split
  · rfl
  · split <;> simp
@[simp] theorem watchCommit_laneA (s : State) : (watchCommit s).laneA = s.laneA := by
  unfold watchCommit; split
  · rfl
  · split <;> simp
@[simp] theorem watchCommit_laneB (s : State) : (watchCommit s).laneB = s.laneB := by
  unfold watchCommit; split
  · rfl
  · split <;> simp
@[simp] theorem watchCommit_transitQueue (s : State) : (watchCommit s).transitQueue = s.transitQueue := by
  unfold watchCommit; split
  · rfl
  · split <;> simp
@[simp] theorem watchCommit_agent (s : State) : (watchCommit s).agent = s.agent := by
  unfold watchCommit; split
  · rfl
  · split <;> simp
@[simp] theorem watchCommit_params (s : State) : (watchCommit s).params = s.params := by
  unfold watchCommit; split
  · rfl
  · split <;> simp
@[simp] theorem watchCommit_trap (s : State) : (watchCommit s).trap = s.trap := by
  unfold watchCommit; split
  · rfl
  · split <;> simp
@[simp] theorem watchCommit_freeCount (s : State) : (watchCommit s).freeCount = s.freeCount := by
  unfold watchCommit; split
  · rfl
  · split <;> simp
@[simp] theorem watchCommit_pending (s : State) : (watchCommit s).pending = s.pending := by
  unfold watchCommit; split
  · rfl
  · split <;> simp

/-! ### The Gate Clock -/

@[simp] theorem useTimeFrame_pins (master : Time) (tag : Tag) (arrival : Time) (s : State) :
    (useTimeFrame master tag arrival s).pins = s.pins := by
  simp only [useTimeFrame, watchCommit_pins]; split_ifs <;> simp
@[simp] theorem useTimeFrame_gateNumber (master : Time) (tag : Tag) (arrival : Time) (s : State) :
    (useTimeFrame master tag arrival s).gateNumber = s.gateNumber := by
  simp only [useTimeFrame, watchCommit_gateNumber]; split_ifs <;> simp
@[simp] theorem useTimeFrame_link (master : Time) (tag : Tag) (arrival : Time) (s : State) :
    (useTimeFrame master tag arrival s).link = s.link := by
  simp only [useTimeFrame, watchCommit_link]; split_ifs <;> simp
@[simp] theorem useTimeFrame_idleTimer (master : Time) (tag : Tag) (arrival : Time) (s : State) :
    (useTimeFrame master tag arrival s).idleTimer = s.idleTimer := by
  simp only [useTimeFrame, watchCommit_idleTimer]; split_ifs <;> simp
@[simp] theorem useTimeFrame_reception (master : Time) (tag : Tag) (arrival : Time) (s : State) :
    (useTimeFrame master tag arrival s).reception = s.reception := by
  simp only [useTimeFrame, watchCommit_reception]; split_ifs <;> simp
@[simp] theorem useTimeFrame_pool (master : Time) (tag : Tag) (arrival : Time) (s : State) :
    (useTimeFrame master tag arrival s).pool = s.pool := by
  simp only [useTimeFrame, watchCommit_pool]; split_ifs <;> simp
@[simp] theorem useTimeFrame_laneA (master : Time) (tag : Tag) (arrival : Time) (s : State) :
    (useTimeFrame master tag arrival s).laneA = s.laneA := by
  simp only [useTimeFrame, watchCommit_laneA]; split_ifs <;> simp
@[simp] theorem useTimeFrame_laneB (master : Time) (tag : Tag) (arrival : Time) (s : State) :
    (useTimeFrame master tag arrival s).laneB = s.laneB := by
  simp only [useTimeFrame, watchCommit_laneB]; split_ifs <;> simp
@[simp] theorem useTimeFrame_transitQueue (master : Time) (tag : Tag) (arrival : Time) (s : State) :
    (useTimeFrame master tag arrival s).transitQueue = s.transitQueue := by
  simp only [useTimeFrame, watchCommit_transitQueue]; split_ifs <;> simp
@[simp] theorem useTimeFrame_agent (master : Time) (tag : Tag) (arrival : Time) (s : State) :
    (useTimeFrame master tag arrival s).agent = s.agent := by
  simp only [useTimeFrame, watchCommit_agent]; split_ifs <;> simp
@[simp] theorem useTimeFrame_params (master : Time) (tag : Tag) (arrival : Time) (s : State) :
    (useTimeFrame master tag arrival s).params = s.params := by
  simp only [useTimeFrame, watchCommit_params]; split_ifs <;> simp
@[simp] theorem useTimeFrame_trap (master : Time) (tag : Tag) (arrival : Time) (s : State) :
    (useTimeFrame master tag arrival s).trap = s.trap := by
  simp only [useTimeFrame, watchCommit_trap]; split_ifs <;> simp
@[simp] theorem useTimeFrame_freeCount (master : Time) (tag : Tag) (arrival : Time) (s : State) :
    (useTimeFrame master tag arrival s).freeCount = s.freeCount := by
  simp only [useTimeFrame, watchCommit_freeCount]; split_ifs <;> simp
@[simp] theorem useTimeFrame_pending (master : Time) (tag : Tag) (arrival : Time) (s : State) :
    (useTimeFrame master tag arrival s).pending = s.pending := by
  simp only [useTimeFrame, watchCommit_pending]; split_ifs <;> simp

@[simp] theorem holdoverExpired_pins (s : State) : (holdoverExpired s).pins = s.pins := by
  unfold holdoverExpired; split <;> simp
@[simp] theorem holdoverExpired_gateNumber (s : State) : (holdoverExpired s).gateNumber = s.gateNumber := by
  unfold holdoverExpired; split <;> simp
@[simp] theorem holdoverExpired_link (s : State) : (holdoverExpired s).link = s.link := by
  unfold holdoverExpired; split <;> simp
@[simp] theorem holdoverExpired_idleTimer (s : State) : (holdoverExpired s).idleTimer = s.idleTimer := by
  unfold holdoverExpired; split <;> simp
@[simp] theorem holdoverExpired_reception (s : State) : (holdoverExpired s).reception = s.reception := by
  unfold holdoverExpired; split <;> simp
@[simp] theorem holdoverExpired_table (s : State) : (holdoverExpired s).table = s.table := by
  unfold holdoverExpired; split <;> simp
@[simp] theorem holdoverExpired_pool (s : State) : (holdoverExpired s).pool = s.pool := by
  unfold holdoverExpired; split <;> simp
@[simp] theorem holdoverExpired_laneA (s : State) : (holdoverExpired s).laneA = s.laneA := by
  unfold holdoverExpired; split <;> simp
@[simp] theorem holdoverExpired_laneB (s : State) : (holdoverExpired s).laneB = s.laneB := by
  unfold holdoverExpired; split <;> simp
@[simp] theorem holdoverExpired_transitQueue (s : State) : (holdoverExpired s).transitQueue = s.transitQueue := by
  unfold holdoverExpired; split <;> simp
@[simp] theorem holdoverExpired_stage (s : State) : (holdoverExpired s).stage = s.stage := by
  unfold holdoverExpired; split <;> simp
@[simp] theorem holdoverExpired_agent (s : State) : (holdoverExpired s).agent = s.agent := by
  unfold holdoverExpired; split <;> simp
@[simp] theorem holdoverExpired_params (s : State) : (holdoverExpired s).params = s.params := by
  unfold holdoverExpired; split <;> simp
@[simp] theorem holdoverExpired_trap (s : State) : (holdoverExpired s).trap = s.trap := by
  unfold holdoverExpired; split <;> simp
@[simp] theorem holdoverExpired_freeCount (s : State) : (holdoverExpired s).freeCount = s.freeCount := by
  unfold holdoverExpired; split <;> simp
@[simp] theorem holdoverExpired_pending (s : State) : (holdoverExpired s).pending = s.pending := by
  unfold holdoverExpired; split <;> simp

@[simp] theorem setTime_pins (value : Time) (s : State) : (setTime value s).pins = s.pins := by
  simp only [setTime, watchCommit_pins]; split_ifs <;> simp
@[simp] theorem setTime_gateNumber (value : Time) (s : State) : (setTime value s).gateNumber = s.gateNumber := by
  simp only [setTime, watchCommit_gateNumber]; split_ifs <;> simp
@[simp] theorem setTime_link (value : Time) (s : State) : (setTime value s).link = s.link := by
  simp only [setTime, watchCommit_link]; split_ifs <;> simp
@[simp] theorem setTime_idleTimer (value : Time) (s : State) : (setTime value s).idleTimer = s.idleTimer := by
  simp only [setTime, watchCommit_idleTimer]; split_ifs <;> simp
@[simp] theorem setTime_pool (value : Time) (s : State) : (setTime value s).pool = s.pool := by
  simp only [setTime, watchCommit_pool]; split_ifs <;> simp
@[simp] theorem setTime_laneA (value : Time) (s : State) : (setTime value s).laneA = s.laneA := by
  simp only [setTime, watchCommit_laneA]; split_ifs <;> simp
@[simp] theorem setTime_laneB (value : Time) (s : State) : (setTime value s).laneB = s.laneB := by
  simp only [setTime, watchCommit_laneB]; split_ifs <;> simp
@[simp] theorem setTime_transitQueue (value : Time) (s : State) : (setTime value s).transitQueue = s.transitQueue := by
  simp only [setTime, watchCommit_transitQueue]; split_ifs <;> simp
@[simp] theorem setTime_agent (value : Time) (s : State) : (setTime value s).agent = s.agent := by
  simp only [setTime, watchCommit_agent]; split_ifs <;> simp
@[simp] theorem setTime_params (value : Time) (s : State) : (setTime value s).params = s.params := by
  simp only [setTime, watchCommit_params]; split_ifs <;> simp
@[simp] theorem setTime_trap (value : Time) (s : State) : (setTime value s).trap = s.trap := by
  simp only [setTime, watchCommit_trap]; split_ifs <;> simp
@[simp] theorem setTime_freeCount (value : Time) (s : State) : (setTime value s).freeCount = s.freeCount := by
  simp only [setTime, watchCommit_freeCount]; split_ifs <;> simp
@[simp] theorem setTime_pending (value : Time) (s : State) : (setTime value s).pending = s.pending := by
  simp only [setTime, watchCommit_pending]; split_ifs <;> simp

end Sys2Proof.Machine
end

