-- ==== Sys2Proof/Laws/Agent.lean ====
section
/-! SUPPORT. The Agent's operations: the Manager Table, replies, and what a request row comes to where the Agent takes it
at once. -/

namespace Sys2Proof.Machine

open Sys2Proof

/-- A request row is its request handed to the Agent. -/
theorem exec_of_request {i : Instr} {m : Sender} {r : Request} (h : i.request = some (m, r)) (s : State) :
    exec i s = requestRow m r s := by
  cases i <;> simp only [Instr.request, Option.some.injEq, Prod.mk.injEq, reduceCtorEq] at h <;>
    (obtain ⟨rfl, rfl⟩ := h; rfl)

/-! ### The Manager Table (R140, R141) -/

/-- The entry of a manager just used: the one found, or a new one with no last request. -/
theorem managerEntry_touchManager (ms : List ManagerEntry) (m : Byte) :
    managerEntry (touchManager ms m) m = some ((managerEntry ms m).getD ⟨m, none⟩) := by
  cases h : managerEntry ms m with
  | some e =>
    have he : e.manager = m := by simpa using List.find?_some h
    have ho : (otherManagers ms m).find? (fun e => decide (e.manager = m)) = none := by
      simp [otherManagers]
    simp only [touchManager, h, Option.getD_some]
    rw [managerEntry, List.find?_append, ho]
    simp [he]
  | none =>
    have hn : ∀ e ∈ ms, ¬decide (e.manager = m) = true := List.find?_eq_none.1 h
    have hl : (if ms.length < managerCapacity then ms else ms.tail).find? (fun e => decide (e.manager = m)) = none := by
      split
      · exact h
      · exact List.find?_eq_none.2 fun e he => hn e (List.mem_of_mem_tail he)
    simp only [touchManager, h, Option.getD_none]
    rw [managerEntry, List.find?_append, hl]
    simp

/-- Using a manager's entry does not change whether a request is a repetition. -/
@[simp] theorem repetition_touchManager (ms : List ManagerEntry) (m : Byte) (txn : BitVec 16) :
    repetition (touchManager ms m) m txn = repetition ms m txn := by
  unfold repetition
  rw [managerEntry_touchManager]
  cases managerEntry ms m <;> rfl

/-! ### Running (R137) -/

/-- With no request waiting the Agent has nothing to run. -/
theorem agentRun_of_empty {s : State} (h : s.agent.requests = []) : agentRun s = s := by
  unfold agentRun
  rw [h]

/-- An Agent that is not READY runs nothing. -/
theorem agentRun_of_not_ready {s : State} (h : s.agent.state ≠ .ready) : agentRun s = s := by
  unfold agentRun
  split
  · rfl
  · rw [if_neg fun hr => h hr.1]

/-- An Agent that is not RESTARTING has no RESTART to end. -/
theorem restartCheck_of_not_restarting {s : State} (h : s.agent.state ≠ .restarting) : restartCheck s = s := by
  simp [restartCheck, restartEnded, h]

/-! ### Replies -/

/-- What a request that is no repetition leaves is `answered`. -/
theorem enterWork_createReply (m : Sender) (code : Byte) (operands : List Byte) (result : Result) (data : List Byte)
    (changing : Bool) (u : State) :
    let t := rememberRequest m.manager ⟨m.txn, result, changing⟩ u
    enterWork .working
        (createReply (replyTo ⟨m.manager, m.txn, code, operands, m.allGates⟩ result data false false t) t) =
      answered m code result data changing u := by
  intro t
  have hb : (settle t).blocked (settle t).params.replyLane = (settle u).blocked (settle u).params.replyLane := rfl
  unfold createReply answered withReply
  simp only [hb]
  split <;> rfl

/-- After a request other than RESTART the Agent is WORKING. -/
@[simp] theorem answered_agent_state (m : Sender) (code : Byte) (result : Result) (data : List Byte) (changing : Bool)
    (u : State) : (answered m code result data changing u).agent.state = .working := by
  unfold answered withReply
  simp only
  split <;> rfl

/-! ### A request row taken at once (R137, R138) -/

/-- The Agent's execution of an accepted request, for a request other than RESTART whose bytes spell it. -/
theorem execute_of_accepts {m : Sender} {r : Request} {s : State} (hd : decodeRequest r.code r.operands = some r)
    (hr : r ≠ .restart) (ha : Accepts m s) :
    let a := perform m.manager r (taken m s)
    execute ⟨m.manager, m.txn, r.code, r.operands, m.allGates⟩ s =
      answered m r.code a.result a.data (stateChanging r) a.state := by
  obtain ⟨-, -, -, -, hm, hp⟩ := ha
  intro a
  have h : repetition (touchManager s.agent.managers m.manager) m.manager m.txn = none := by
    rw [repetition_touchManager, hp]
  rw [← enterWork_createReply m r.code r.operands]
  simp only [execute, restartStaging_agent, if_neg hm, h, executeNew, hd, hr, if_false, decide_false]
  rfl

/-- A request row taken at once, up to the end of its execution. -/
theorem takeRequest_of_accepts {m : Sender} {s : State} (code : Byte) (operands : List Byte) (ha : Accepts m s) :
    takeRequest m code operands s = restartCheck (execute ⟨m.manager, m.txn, code, operands, m.allGates⟩ s) := by
  obtain ⟨-, hready, hempty, hroom, -, -⟩ := ha
  simp only [takeRequest, intake, hempty, requestCapacity, List.length_nil, List.nil_append, agentRun, hready,
    replyCapacity, if_pos (by decide : (0 : Nat) < 4), true_and, if_pos hroom]
  congr 2
  rw [← hempty, ← hready]

/-- The next state of an accepted request row other than RESTART: the stall timers judged on what the request's own rule
leaves with its reply. -/
theorem exec_of_accepts {i : Instr} {m : Sender} {r : Request} {s : State} (hi : i.request = some (m, r))
    (hd : decodeRequest r.code r.operands = some r) (hr : r ≠ .restart) (ha : Accepts m s) :
    let a := perform m.manager r (taken m s)
    exec i s = .next (settle (answered m r.code a.result a.data (stateChanging r) a.state)) := by
  intro a
  have h := execute_of_accepts hd hr ha
  rw [exec_of_request hi, requestRow, act, if_pos ha.1, takeRequest_of_accepts r.code r.operands ha, h,
    restartCheck_of_not_restarting (by simp)]

end Sys2Proof.Machine
end

