-- ==== Sys2Proof/Laws/Bytes.lean ====
section
/-! SUPPORT. Bytes and fields: a field is read back from its bytes, and bytes from the field they make. -/

namespace Sys2Proof

/-- A bit of two fields side by side, the widths summed. -/
theorem bit_append {m n w : Nat} (hw : m + n = w) (x : BitVec m) (y : BitVec n) (i : Nat) :
    ((x ++ y).cast hw).getLsbD i = if i < n then y.getLsbD i else x.getLsbD (i - n) := by
  rw [BitVec.getLsbD_cast, BitVec.getLsbD_append]

/-- A bit of a 16-bit field of two bytes. -/
theorem bit_join16 (b1 b0 : Byte) (i : Nat) :
    (join16 b1 b0).getLsbD i = if i < 8 then b0.getLsbD i else b1.getLsbD (i - 8) := bit_append rfl b1 b0 i

/-- A bit of a 32-bit field of four bytes. -/
theorem bit_join32 (b3 b2 b1 b0 : Byte) (i : Nat) :
    (join32 b3 b2 b1 b0).getLsbD i =
      if i < 8 then b0.getLsbD i
      else if i < 16 then b1.getLsbD (i - 8)
      else if i < 24 then b2.getLsbD (i - 16)
      else b3.getLsbD (i - 24) := by
  have h : (join32 b3 b2 b1 b0).getLsbD i =
      if i < 8 then b0.getLsbD i else (b3 ++ b2 ++ b1).getLsbD (i - 8) := bit_append rfl (b3 ++ b2 ++ b1) b0 i
  rw [h, BitVec.getLsbD_append, BitVec.getLsbD_append]
  split_ifs <;> first | rfl | omega

/-- A bit of a 48-bit field of six bytes. -/
theorem bit_join48 (b5 b4 b3 b2 b1 b0 : Byte) (i : Nat) :
    (join48 b5 b4 b3 b2 b1 b0).getLsbD i =
      if i < 8 then b0.getLsbD i
      else if i < 16 then b1.getLsbD (i - 8)
      else if i < 24 then b2.getLsbD (i - 16)
      else if i < 32 then b3.getLsbD (i - 24)
      else if i < 40 then b4.getLsbD (i - 32)
      else b5.getLsbD (i - 40) := by
  have h : (join48 b5 b4 b3 b2 b1 b0).getLsbD i =
      if i < 8 then b0.getLsbD i else (b5 ++ b4 ++ b3 ++ b2 ++ b1).getLsbD (i - 8) :=
    bit_append rfl (b5 ++ b4 ++ b3 ++ b2 ++ b1) b0 i
  rw [h, BitVec.getLsbD_append, BitVec.getLsbD_append, BitVec.getLsbD_append, BitVec.getLsbD_append]
  split_ifs <;> first | rfl | omega

/-- A 16-bit field is read back from its bytes. -/
theorem join16_extract (v : BitVec 16) : join16 (v.extractLsb' 8 8) (v.extractLsb' 0 8) = v := by
  apply BitVec.eq_of_getLsbD_eq
  intro i hi
  rw [bit_join16]
  simp only [BitVec.getLsbD_extractLsb']
  split_ifs with h1
  · rw [decide_eq_true h1, Bool.true_and, Nat.zero_add]
  · rw [show 8 + (i - 8) = i by omega, decide_eq_true (by omega), Bool.true_and]

/-- A 32-bit field is read back from its bytes. -/
theorem join32_extract (v : BitVec 32) :
    join32 (v.extractLsb' 24 8) (v.extractLsb' 16 8) (v.extractLsb' 8 8) (v.extractLsb' 0 8) = v := by
  apply BitVec.eq_of_getLsbD_eq
  intro i hi
  rw [bit_join32]
  simp only [BitVec.getLsbD_extractLsb']
  split_ifs with h1 h2 h3
  · rw [decide_eq_true h1, Bool.true_and, Nat.zero_add]
  · rw [show 8 + (i - 8) = i by omega, decide_eq_true (by omega), Bool.true_and]
  · rw [show 16 + (i - 16) = i by omega, decide_eq_true (by omega), Bool.true_and]
  · rw [show 24 + (i - 24) = i by omega, decide_eq_true (by omega), Bool.true_and]

/-- A 48-bit field is read back from its bytes. -/
theorem join48_extract (v : BitVec 48) :
    join48 (v.extractLsb' 40 8) (v.extractLsb' 32 8) (v.extractLsb' 24 8) (v.extractLsb' 16 8) (v.extractLsb' 8 8)
      (v.extractLsb' 0 8) = v := by
  apply BitVec.eq_of_getLsbD_eq
  intro i hi
  rw [bit_join48]
  simp only [BitVec.getLsbD_extractLsb']
  split_ifs with h1 h2 h3 h4 h5
  · rw [decide_eq_true h1, Bool.true_and, Nat.zero_add]
  · rw [show 8 + (i - 8) = i by omega, decide_eq_true (by omega), Bool.true_and]
  · rw [show 16 + (i - 16) = i by omega, decide_eq_true (by omega), Bool.true_and]
  · rw [show 24 + (i - 24) = i by omega, decide_eq_true (by omega), Bool.true_and]
  · rw [show 32 + (i - 32) = i by omega, decide_eq_true (by omega), Bool.true_and]
  · rw [show 40 + (i - 40) = i by omega, decide_eq_true (by omega), Bool.true_and]

/-- The bytes of a field that two bytes make. -/
theorem bytes16_join16 (b1 b0 : Byte) : bytes16 (join16 b1 b0) = [b1, b0] := by
  have h1 : (join16 b1 b0).extractLsb' 8 8 = b1 := by
    apply BitVec.eq_of_getLsbD_eq
    intro i hi
    rw [BitVec.getLsbD_extractLsb', bit_join16, if_neg (by omega), decide_eq_true hi, Bool.true_and]
    congr 1
    omega
  have h0 : (join16 b1 b0).extractLsb' 0 8 = b0 := by
    apply BitVec.eq_of_getLsbD_eq
    intro i hi
    rw [BitVec.getLsbD_extractLsb', bit_join16, if_pos (by omega), decide_eq_true hi, Bool.true_and, Nat.zero_add]
  rw [bytes16, h1, h0]

end Sys2Proof
end

