-- ==== Sys2Proof/Laws/Drops.lean ====
section
/-! SUPPORT. Frames taken from the lanes one after another: how the changes to their slots' entries add up, and how the
RETIRED raises among them come together. -/

namespace Sys2Proof.Machine

open Sys2Proof

/-! ### Entries (R28, R34, R36) -/

/-- Nothing taken changes nothing. -/
@[simp] theorem entryAfterDrops_zero (engaged : Bool) (e : Entry) : entryAfterDrops 0 0 0 engaged e = e := by
  simp [entryAfterDrops]

/-- Frames taken in two parts leave what they leave taken together. -/
theorem entryAfterDrops_add (a b f a' b' f' : Nat) (engaged : Bool) (e : Entry) :
    entryAfterDrops a' b' f' engaged (entryAfterDrops a b f engaged e) =
      entryAfterDrops (a + a') (b + b') (f + f') engaged e := by
  have hs :
      (entryAfterDrops a' b' f' engaged (entryAfterDrops a b f engaged e)).state =
        (entryAfterDrops (a + a') (b + b') (f + f') engaged e).state := by
    rcases e with ⟨st, _, held, _, _, _, _, _, _⟩
    cases st <;> cases engaged <;> simp [entryAfterDrops]
    split_ifs <;> first | rfl | omega
  have hc (x : Counter) (m n : Nat) :
      x + BitVec.ofNat 32 m + BitVec.ofNat 32 n = x + BitVec.ofNat 32 (m + n) := by
    rw [BitVec.ofNat_add, BitVec.add_assoc]
  have hd (x : Bool) (m n : Nat) : (x || decide (0 < m) || decide (0 < n)) = (x || decide (0 < m + n)) := by
    cases x <;> rw [Bool.eq_iff_iff] <;> simp
  have hh : e.held - f - f' = e.held - (f + f') := by omega
  have hx (x y : Entry) (h1 : x.state = y.state) (h2 : x.config = y.config) (h3 : x.held = y.held)
      (h4 : x.expected = y.expected) (h5 : x.behindRun = y.behindRun) (h6 : x.discontinuityA = y.discontinuityA)
      (h7 : x.discontinuityB = y.discontinuityB) (h8 : x.lastArrival = y.lastArrival)
      (h9 : x.counters = y.counters) : x = y := by
    cases x
    cases y
    simp_all
  exact hx _ _ hs rfl hh rfl rfl (hd ..) (hd ..) rfl (by simp only [entryAfterDrops, hc])

/-- One frame lost to a lane (R36). -/
theorem entryAfterDrops_laneLost (l : Lane) (engaged : Bool) (e : Entry) :
    entryAfterDrops (if l = .a then 1 else 0) (if l = .b then 1 else 0) 0 engaged e = e.laneLost l := by
  cases l <;> simp [entryAfterDrops, Entry.laneLost]

/-! ### Raises (R28, R158, R159) -/

/-- What a raise leaves in the queue goes by parameters, clock and Notice Unit alone. -/
theorem raise_notices_congr {s u : State} (hp : u.params = s.params) (hc : u.clock = s.clock)
    (hn : u.notices = s.notices) (cls : NoticeClass) (slot : Option Slot) (tag : Tag) (detail : BitVec 32) :
    (raise cls slot tag detail u).notices = (raise cls slot tag detail s).notices := by
  unfold raise
  rw [hp, hc, hn]
  split_ifs <;> simp [hn]

/-- What a raise leaves in notices lost goes by parameters and Notice Unit and the count before. -/
theorem raise_noticesLost_congr {s u : State} (hp : u.params = s.params) (hn : u.notices = s.notices)
    (hl : u.counters.noticesLost = s.counters.noticesLost) (cls : NoticeClass) (slot : Option Slot) (tag : Tag)
    (detail : BitVec 32) :
    (raise cls slot tag detail u).counters.noticesLost = (raise cls slot tag detail s).counters.noticesLost := by
  unfold raise
  rw [hp, hn]
  split_ifs <;> simp [hl]

@[simp] theorem raiseRetired_nil (s : State) : raiseRetired [] s = s := rfl

/-- A list of raises is its first part and then its rest, the slots read in the state before all of them. -/
theorem raiseRetired_concat (ks : List Slot) (k : Slot) (s : State) :
    raiseRetired (ks ++ [k]) s =
      raise .retired (some k) (s.entry k).config.tag (s.entry k).counters.received (raiseRetired ks s) := by
  simp [raiseRetired]

/-- A fold of raises leaves what each raise leaves. -/
theorem foldl_raise_keeps {α : Type} (f : State → α)
    (hf : ∀ k tag detail s, f (raise .retired (some k) tag detail s) = f s) (tag : Slot → Tag)
    (detail : Slot → BitVec 32) (ks : List Slot) (s : State) :
    f (ks.foldl (fun u k => raise .retired (some k) (tag k) (detail k) u) s) = f s := by
  induction ks generalizing s with
  | nil => rfl
  | cons k ks ih => rw [List.foldl_cons, ih, hf]

/-- Field by field, the raises leave what each raise leaves. -/
theorem raiseRetired_keeps {α : Type} (f : State → α)
    (hf : ∀ k tag detail s, f (raise .retired (some k) tag detail s) = f s) (ks : List Slot) (s : State) :
    f (raiseRetired ks s) = f s :=
  foldl_raise_keeps f hf _ _ ks s

@[simp] theorem raiseRetired_table (ks : List Slot) (s : State) : (raiseRetired ks s).table = s.table :=
  raiseRetired_keeps State.table (fun _ _ _ _ => raise_table ..) ks s

@[simp] theorem raiseRetired_params (ks : List Slot) (s : State) : (raiseRetired ks s).params = s.params :=
  raiseRetired_keeps State.params (fun _ _ _ _ => raise_params ..) ks s

@[simp] theorem raiseRetired_clock (ks : List Slot) (s : State) : (raiseRetired ks s).clock = s.clock :=
  raiseRetired_keeps State.clock (fun _ _ _ _ => raise_clock ..) ks s

@[simp] theorem raiseRetired_pool (ks : List Slot) (s : State) : (raiseRetired ks s).pool = s.pool :=
  raiseRetired_keeps State.pool (fun _ _ _ _ => raise_pool ..) ks s

/-- Of the counters the raises can change notices lost alone. -/
theorem raiseRetired_counters (ks : List Slot) (s : State) :
    ∃ n, (raiseRetired ks s).counters = { s.counters with noticesLost := n } := by
  have h := raiseRetired_keeps (fun s => { s.counters with noticesLost := 0 })
    (fun k tag detail s => by
      obtain ⟨n, hn⟩ := raise_counters .retired (some k) tag detail s
      simp only [hn]) ks s
  refine ⟨(raiseRetired ks s).counters.noticesLost, ?_⟩
  rw [GlobalCounters.mk.injEq] at h
  generalize (raiseRetired ks s).counters = c at h ⊢
  cases c
  simp_all

end Sys2Proof.Machine
end

