-- ==== Sys2Proof/Tests/Slice0.lean ====
section
/-! SUPPORT. Tests of the model: the ill-formed terms that WellFormed refuses, single steps whose expected results come
from the manual, and for every statement with hypotheses a state and operands that meet them. -/

namespace Sys2Proof.Tests

open Sys2Proof Sys2Proof.Machine

set_option Elab.async false

/-! ### Helpers -/

/-- The state a command leaves. -/
def after (i : Instr) (s : State) : State :=
  match exec i s with
  | .next t => t
  | .fault _ => s
  | .refused _ => s

/-- Manager 12 with a transaction number. -/
def manager12 (txn : BitVec 16) : Sender := ⟨12, txn, false⟩

/-- The gate after reset with the link UP. -/
def linkUp : State := { State.reset with link := .up }

/-- The last reply of the queue: its result and data. -/
def lastReply (s : State) : Option (Result × List Byte) := s.agent.replies.getLast?.map fun r => (r.result, r.data)

/-- Slot 0's configuration of section 12.1, step 9: tag 0x0150, lanes A, ARRIVAL-DELAYED by 125,000, quota 16. -/
def config0 : EntryConfig :=
  { EntryConfig.zero with
    tag := 0x0150
    lanes := ⟨true, false⟩
    timing := .arrivalDelayed
    holdOffset := 125000
    holdQuota := 16 }

/-- Slot 0's operands of section 12.1, step 9. -/
def operands0 : EntryOperands :=
  { slot := 0
    state := 1
    tag := 0x0150
    lanes := 1
    timing := 1
    holdOffset := 125000
    latePolicy := 0
    errorPolicy := 0
    stamping := 0
    continuity := 0
    holdQuota := 16
    resetContinuity := 0 }

/-- An ACTIVE entry that expects 10. -/
def entry0 : Entry := { Entry.reset with state := .active, config := config0, expected := some 10 }

/-- The gate with slot 0 ACTIVE, the link UP. -/
def active0 : State := linkUp.setEntry 0 entry0

/-- A context of a frame of tag 0x0150 with sequence number 10 and no payload, 18 bytes. -/
def context0 : Context := openContext linkUp ⟨1, 0, 0x0150, 10, 0, 0⟩

/-- The same frame classified to slot 0. -/
def context0Classified : Context := { context0 with classified := some ⟨0, .active, config0⟩ }

/-- A descriptor of slot 0 that is HELD for lane A, released at gate time 5. -/
def held0 : Descriptor :=
  { condition := .held
    stream := .slot 0
    order := 0
    arrival := 1
    release := 5
    ready := some 5
    remaining := ⟨true, false⟩
    cells := [0]
    frameLength := 18
    stampFlags := noStampFlags
    stamped := false
    data := List.replicate 18 0 }

/-- A transit descriptor that is HELD for lane A. -/
def heldTransit : Descriptor := { held0 with stream := .transit }

/-- Descriptor 0 of slot 0 stands in lane A's release queue at gate time 9. -/
def queued : State :=
  { (active0.setDesc 0 (some held0)).setEntry 0 { entry0 with held := 1 } with
    clock := { Clock.reset with time := 9 }
    laneA := { LaneUnit.reset with releaseQueue := [0] }
    pool := { (active0.setDesc 0 (some held0)).pool with freeCells := (List.range 1024).drop 1 } }

/-- A due notice record. -/
def record0 : Notice := newNotice NoticeUnit.reset 3 3 .gap (some 0) 0x0150 0

/-- The gate with one record under a condition. -/
def withRecord (c : NoticeCondition) : State :=
  { State.reset with notices := ⟨[{ record0 with condition := c }], 1, false⟩ }

/-- A waiting reply. -/
def reply0 : Reply := replyOf (manager12 1) 1 .ok [] false State.reset

/-- One staged change of manager 12. -/
def staged : State :=
  { State.reset with stage := ⟨[.setEntry 0 .active config0 false], some 12, .idle, some 0⟩ }

/-! ### WellFormed refuses an ill-formed term of each kind -/

theorem test_wf_manager_zero_refused : (Instr.flush ⟨0, 1, false⟩).wellFormed = false := by decide

theorem test_wf_manager_accepted : (Instr.flush (manager12 1)).wellFormed = true := by decide

theorem test_wf_bad_request_that_is_good_refused :
    (Instr.badRequest (manager12 1) 0x24 []).wellFormed = false := by decide

theorem test_wf_bad_request_with_surplus_operand_accepted :
    (Instr.badRequest (manager12 1) 0x24 [0]).wellFormed = true := by decide

theorem test_wf_bad_request_too_long_refused :
    (Instr.badRequest (manager12 1) 0xFF (List.replicate 1021 0)).wellFormed = false := by decide +kernel

theorem test_wf_set_param_of_own_row_refused : (Instr.setParam (manager12 1) 13 5).wellFormed = false := by decide

theorem test_wf_set_param_accepted : (Instr.setParam (manager12 1) 8 0x0E00).wellFormed = true := by decide

/-! ### No table word spells a command (the table gives no row any bits) -/

theorem test_table_word_spells_nothing : decodeTableWord 16 5 = none := by decide

theorem test_withFetchWord_leaves_the_state : State.reset.withFetchWord 16 5 = State.reset := rfl

/-! ### Formats (chapter 11) -/

/-- The check value of the polynomial, start and final values of R175 over the bytes "123456789". -/
theorem test_check_word :
    checkWord [0x31, 0x32, 0x33, 0x34, 0x35, 0x36, 0x37, 0x38, 0x39] = 0xFC891918 := by decide +kernel

/-- COMMIT-AT at 2,125,000,000 (section 12.2): code 0x15 and six bytes, most significant first. -/
theorem test_commit_at_bytes :
    (Request.commitAt 2125000000).operands = [0x00, 0x00, 0x7E, 0xA8, 0xED, 0x40] := by decide

theorem test_header_bytes :
    decodeHeader [1, 0x81, 0x01, 0x50, 0x00, 0x0A, 0x03, 0x84, 0, 0, 0, 0, 1, 0] =
      some ⟨1, 0x81, 0x0150, 10, 900, 256⟩ := by decide

/-- Section 12.5: 14 + 900 + 8 + 4 bytes. -/
theorem test_declared_length : declaredLength 900 0x01 = 926 := by decide

/-! ### Single steps, with the results of chapter 12 and of the rules named -/

theorem test_power_on_samples_straps : (after (.powerOn 7) linkUp).gateNumber = 7 := by decide +kernel

theorem test_reset_n_abandons_reception :
    (after .resetNAsserted { linkUp with reception := some ⟨[1], none⟩ }).reception = none := by decide +kernel

theorem test_signal_present_acquires : (after .signalPresent State.reset).link = .acquiring := by decide +kernel

theorem test_idle_timer_brings_up :
    (after .idleTimerExpiry { State.reset with link := .acquiring, idleTimer := some 0 }).link = .up ∧
      (after .idleTimerExpiry { State.reset with link := .acquiring, idleTimer := some 0 }).clock.time = 2000 := by
  decide +kernel

theorem test_loss_of_signal_counts : (after .lossOfSignal linkUp).counters.linkLosses = 1 := by decide +kernel

theorem test_loss_of_alignment_in_acquiring_restarts :
    (after .lossOfAlignment { State.reset with link := .acquiring, idleTimer := some 7 }).idleTimer = some 0 := by
  decide +kernel

theorem test_short_reception_truncated :
    (after .endDelimiter { linkUp with reception := some ⟨[1, 2], none⟩ }).counters.truncated = 1 := by decide +kernel

theorem test_wait_pauses : (after (.waitAsserted .b) State.reset).laneB.state = .paused := by decide +kernel

theorem test_wait_leaves_a_sending_lane :
    (after (.waitAsserted .a) { State.reset with laneA := ⟨.sending, [], some ⟨.descriptor 0, [], 0⟩, none⟩ }).laneA.state
      = .sending := by decide +kernel

/-- R46: distance 0 is IN-ORDER; section 12.5: GAP(3). -/
theorem test_gap_distance : (judge .check (some 10) 0 13).verdict = .gap 3 := by decide

/-- R46: the value 32768 itself counts as behind. -/
theorem test_behind_at_32768 : (judge .check (some 10) 2 (10 + 32768)).verdict = .behind := by decide

/-- Section 12.2, step 3: header event at 2,124,990,000, release at 2,125,115,000. -/
theorem test_arrival_delayed :
    decideRelease config0 2124990000 none .locked = .release 2125115000 false false := by decide

/-- Section 12.1, step 1: READ-STATUS of a gate numbered 7 with the link UP. -/
theorem test_read_status :
    lastReply (after (.readStatus (manager12 1)) { linkUp with gateNumber := 7 }) =
      some (.ok, [7, 2, 0, 0, 0, 0x04, 0x00, 0x01, 0x00, 0, 0, 0, 0, 0, 0, 0, 0, 0, 0, 0, 0, 0]) := by decide +kernel

/-- Section 12.1, step 2. -/
theorem test_set_notice_destination :
    (after (.setParamNoticeDestination (manager12 2) 12) linkUp).params.noticeDestination = 12 := by decide +kernel

/-- Section 12.1, step 3. -/
theorem test_set_path_compensation :
    (after (.setParam (manager12 3) 9 300) linkUp).params.pathCompensation = 300 := by decide +kernel

/-- Section 12.1, step 9: OK, index 0, length 1, owner 12. -/
theorem test_stage_entry :
    lastReply (after (.stageEntry (manager12 7) operands0) linkUp) = some (.ok, [0, 1]) ∧
      (after (.stageEntry (manager12 7) operands0) linkUp).stage.owner = some 12 := by decide +kernel

/-- Section 12.1, step 11: the slot is ACTIVE, the list empty, no owner. -/
theorem test_commit :
    ((after (.commit (manager12 9)) staged).entry 0).state = .active ∧
      (after (.commit (manager12 9)) staged).stage = Stage.reset := by decide +kernel

/-- R130: no schedule while the clock is FREE. -/
theorem test_commit_at_free_clock : lastReply (after (.commitAt (manager12 9) 5) staged) = some (.noTime, []) := by
  decide +kernel

/-- Section 12.1: TIME-SET moves the clock from FREE to HOLDOVER. -/
theorem test_time_set : (after (.timeSet (manager12 9) 500) linkUp).clock.state = .holdover := by decide +kernel

/-- Section 12.4, step 4: LANE-RESUME with WAITB high is refused with PAUSED. -/
theorem test_lane_resume_paused :
    lastReply
        (after (.laneResume (manager12 9) 1)
          { State.reset with
            laneB := ⟨.blocked, [], none, none⟩
            pins := { Pins.initial with waitB := true } }) = some (.paused, []) := by decide +kernel

/-- Section 12.4, step 2: the queue is dropped, the held count falls and lane-lost rises. -/
theorem test_lane_block_drops :
    ((after (.laneBlock (manager12 9) 0) { queued with params := { queued.params with replyLane := .b } }).entry 0).held
        = 0 ∧
      ((after (.laneBlock (manager12 9) 0) { queued with params := { queued.params with replyLane := .b } }).entry
          0).counters.laneLostA = 1 := by decide +kernel

/-- R141: the repetition carries the stored result and DUPLICATE. -/
theorem test_repetition :
    ((after (.flush (manager12 4))
        { State.reset with
          agent := { Agent.reset with managers := [⟨12, some ⟨4, .state, true⟩⟩] } }).agent.replies.map fun r =>
      (r.result, r.duplicate)) = [(.state, true)] := by decide +kernel

/-- R151: the Agent is RESTARTING with the reply in its queue. -/
theorem test_restart_waits_for_its_reply :
    (after (.restart (manager12 4)) linkUp).agent.state = .restarting := by decide +kernel

/-- Section 12.5, step 1. -/
theorem test_arm_trap :
    (after (.armTrap (manager12 4) ⟨0, 0x0150, 1, 2, 0⟩) State.reset).trap.state = .armed := by decide +kernel

/-- R168: GAP with a kind other than DATA. -/
theorem test_arm_trap_gap_needs_data :
    lastReply (after (.armTrap (manager12 4) ⟨0, 0x0150, 0, 2, 0⟩) State.reset) = some (.badValue, []) := by
  decide +kernel

/-- R163: section 12.1, step 8, one record removed, none left. -/
theorem test_ack_notices :
    lastReply
        (after (.ackNotices (manager12 6) 0)
          { withRecord .due with params := { Params.reset with noticeDestination := 12 } }) = some (.ok, [1, 0]) := by
  decide +kernel

/-- R138: manager id 0. -/
theorem test_bad_request_manager_zero :
    lastReply (after (.badRequest ⟨0, 4, false⟩ 0x24 []) State.reset) = some (.badRequest, []) := by decide +kernel

theorem test_lane_send_start_takes_the_head :
    (after (.laneSendStart .a) queued).laneA.state = .sending ∧
      (after (.laneSendStart .a) queued).laneA.releaseQueue = [] := by decide +kernel

/-! ### Every statement with hypotheses: a state and operands that meet them, one for each clause, at its boundary -/

/-- The gate with RESET_N low. -/
def inReset : State := { State.reset with pins := { Pins.initial with resetN := false } }

/-- The link in ACQUIRING with its idle timer at a value. -/
def acquiring (e : Nat) : State := { State.reset with link := .acquiring, idleTimer := some e }

/-- A reception of so many bytes with no header event yet. -/
def receiving (n : Nat) : State := { linkUp with reception := some ⟨List.replicate n 1, none⟩ }

/-- The frame of `context0` in reception, its 14 header bytes received. -/
def pastHeader : State :=
  { linkUp with reception := some ⟨encodeHeader ⟨1, 0, 0x0150, 10, 0, 0⟩, some context0⟩ }

/-- A lane that sends an item. -/
def sendingItem (item : SendItem) (e : Nat) : State := { queued with laneA := ⟨.sending, [], some ⟨item, [], e⟩, none⟩ }

/-- Lane A PAUSED with its stall timer running. -/
def stalled (e : Nat) : State := { queued with laneA := ⟨.paused, [0], none, some e⟩ }

/-- The trap HELD with a capture of 40 bytes. -/
def trapHeld : State :=
  { State.reset with
    trap :=
      { Trap.reset with
        state := .held
        buffer := List.replicate 40 7
        record := some (captureRecord Trap.reset context0 .good 40)
        generation := 7 } }

/-- A scheduled commit of the staged change. -/
def scheduled (t : Time) : State :=
  { staged with
    stage := ⟨staged.stage.changes, some 12, .scheduled t, none⟩
    clock := { Clock.reset with state := .locked } }

theorem test_meets_StepRunsTheFrontCommand :
    ({ State.reset with pending := [.signalPresent] } : State).pending = .signalPresent :: [] := rfl

theorem test_power_on_changes_the_gate_number :
    ∃ t, exec (.powerOn 7) State.reset = .next t ∧ t.gateNumber ≠ State.reset.gateNumber :=
  ⟨after (.powerOn 7) State.reset, rfl, by decide +kernel⟩

/-- A gate in reset, one with no event due, and one whose idle timer has reached 2000 periods. -/
theorem test_meets_IdlePeriodsMoveOnlyTimers :
    (inReset.pending = [] ∧ inReset.pins.resetN = false) ∧
      (State.reset.pending = [] ∧ State.reset.pins.resetN = true ∧ dueEvents State.reset = []) ∧
      (acquiring 2000).pending = [] ∧ (acquiring 2000).pins.resetN = true ∧
        dueEvents (acquiring 2000) = [.idleTimerExpiry] ∧ dueEvents (acquiring 1999) = [] := by decide +kernel

theorem test_meets_HardResetGivesEveryBlockItsResetValues : inReset.pins.resetN = false := rfl

theorem test_meets_ResetPinHoldsTheGate :
    State.reset.pins.resetN = true ∧ inReset.pins.resetN = false ∧ (∀ x, Instr.signalPresent ≠ .powerOn x) ∧
      (∀ x, Instr.signalPresent ≠ .resetNReleased x) ∧ Instr.signalPresent ≠ .resetNAsserted := by
  refine ⟨rfl, rfl, ?_, ?_, ?_⟩ <;> simp

theorem test_meets_LinkComesUpThroughAcquiring :
    (∀ e, (acquiring e).pins.resetN = true ∧ (acquiring e).link = .acquiring ∧ (acquiring e).idleTimer = some e) ∧
      State.reset.pins.resetN = true ∧ State.reset.link = .down ∧
      Instr.dataByte 5 ∈ [Instr.lossOfAlignment, .invalidCodeGroup, .startDelimiter, .dataByte 5, .endDelimiter] := by
  refine ⟨fun e => ⟨rfl, rfl, rfl⟩, rfl, rfl, ?_⟩
  decide

theorem test_meets_LinkLossEndsTheReceptionAndIsReported : linkUp.pins.resetN = true ∧ linkUp.link = .up := ⟨rfl, rfl⟩

theorem test_meets_ReceptionsRunFromDelimiterToEnd :
    (linkUp.pins.resetN = true ∧ linkUp.link = .up ∧ linkUp.reception = none) ∧
      ((receiving 12).link = .up ∧ (receiving 12).reception = some ⟨List.replicate 12 1, none⟩ ∧
        (List.replicate 12 (1 : Byte)).length ≠ 13) ∧
      ((receiving 13).reception = some ⟨List.replicate 13 1, none⟩ ∧ (List.replicate 13 (1 : Byte)).length = 13) ∧
      pastHeader.link = .up ∧
      pastHeader.reception = some ⟨encodeHeader ⟨1, 0, 0x0150, 10, 0, 0⟩, some context0⟩ := by decide +kernel

theorem test_meets_HeaderEventFixesContextAndClass :
    decodeHeader (encodeHeader ⟨1, 0, 0x0150, 10, 0, 0⟩) = some ⟨1, 0, 0x0150, 10, 0, 0⟩ := by decide +kernel

theorem test_meets_EndEventFixesOutcomeAndFate : context0Classified.classified = some ⟨0, .active, config0⟩ := rfl

/-- A frame with no slot and no reservation; one classified to a RETIRING slot that holds no frame; payloads of three bytes
and of four. -/
theorem test_meets_EndEventTakesItsPartsInOrder :
    (pastHeader.pins.resetN = true ∧ pastHeader.link = .up ∧
        pastHeader.reception = some ⟨encodeHeader ⟨1, 0, 0x0150, 10, 0, 0⟩, some context0⟩) ∧
      (let s := { linkUp.setEntry 0 { entry0 with state := .retiring } with
          reception := some ⟨List.replicate 18 0, some context0Classified⟩ }
      s.pins.resetN = true ∧ s.link = .up ∧ context0Classified.classified = some ⟨0, .active, config0⟩ ∧
        (s.entry 0).state = .retiring ∧ (s.entry 0).held = 0) ∧
      (List.replicate 3 (0 : Byte)).length < 4 := by decide +kernel

/-- A frame of each class, a tag that ACTIVE slot 0 holds, and a tag that no slot holds. -/
theorem test_meets_HeaderEventActsByClass :
    decodeHeader (encodeHeader ⟨1, 0, 0x0150, 10, 0, 0⟩) = some ⟨1, 0, 0x0150, 10, 0, 0⟩ ∧
      ([dispatch active0 ⟨0, 0, 0, 0, 0, 0⟩, dispatch active0 ⟨5, 0, 0xF000, 0, 0, 0⟩,
          dispatch active0 ⟨3, 0, 0xF000, 0, 0, 0⟩, dispatch active0 ⟨3, 0, 0xF0FF, 0, 0, 0⟩] =
        [.malformed, .ownReturned, .localRequest, .allGatesRequest]) ∧
      (context0.cls = .streamCandidate ∧ TableLaw active0 ∧ (active0.entry 0).state = .active ∧
        (active0.entry 0).config.tag = context0.tag) ∧
      ∀ k, (linkUp.entry k).state = .active ∨ (linkUp.entry k).state = .muted →
        (linkUp.entry k).config.tag ≠ context0.tag := by
  unfold TableLaw ConfigInRange
  decide +kernel

/-- The longest buffer; a trap that is not FILLING, and one that is, under ERRORED and under ANY. -/
theorem test_meets_TrapCapturesTheMatchingFrame :
    (List.replicate 1088 (0 : Byte)).length ≤ 1088 ∧ State.reset.trap.state ≠ .filling ∧
      (let t := { Trap.reset with state := .filling, condition := .errored }
      t.state = .filling ∧ t.condition = .errored ∧ EndOutcome.badCheck ≠ .good) ∧
      (let t := { Trap.reset with state := .filling }
      t.state = .filling ∧ t.condition ≠ .errored) := by decide +kernel

/-- The boundaries of the verdicts: distances 1 and 32767 (GAP), 32768 with behind run 2 (BEHIND) and 3 (RESTART); an
expectation met, and a slot under IGNORE. -/
theorem test_meets_ContinuityVerdictsAndTheirReports :
    ((10 + 1 - 10 : BitVec 16).toNat ∈ Finset.Icc 1 32767 ∧ (10 + 32767 - 10 : BitVec 16).toNat ∈ Finset.Icc 1 32767) ∧
      (32768 ≤ (10 + 32768 - 10 : BitVec 16).toNat ∧ (2 : Fin 4) ≠ 3) ∧
      ((active0.entry 0).config.continuity = .check ∧ (active0.entry 0).expected = some 10 ∧
        1 ≤ ((11 : BitVec 16) - 10).toNat ∧ ((11 : BitVec 16) - 10).toNat ≤ 32767 ∧
        ((32777 : BitVec 16) - 10).toNat ≤ 32767) ∧
      (((active0.setEntry 0 { entry0 with behindRun := 3 }).entry 0).behindRun = 3 ∧
        1 ≤ ((32778 : BitVec 16) - 10).toNat) ∧
      ((active0.entry 0).expected = some { context0 with sequence := 10 }.sequence ∧ (active0.entry 0).behindRun ≠ 3 ∧
        32768 ≤ ((32778 : BitVec 16) - 10).toNat) ∧
      ((active0.setEntry 0 { entry0 with config := { config0 with continuity := .ignore } }).entry 0).config.continuity =
        .ignore := by decide +kernel

theorem test_meets_FirstFrameSynchronisesTheStream :
    (State.reset.entry 0).config.continuity = .check ∧ (State.reset.entry 0).expected = none := by decide +kernel

theorem test_meets_MutedAndBehindFramesAreDiscardedFirst :
    (⟨0, .muted, config0⟩ : Classified).state = .muted ∧
      ((⟨0, .active, config0⟩ : Classified).state ≠ .muted ∧ { context0 with verdict := .behind }.verdict = .behind) ∧
      { context0 with verdict := .inOrder }.verdict ≠ .behind := by decide

/-- Timing modes; then no lane left, a full quota, an empty free list, and room. -/
theorem test_meets_ReleaseTimeThenLanesQuotaAndPool :
    (EntryConfig.zero.timing = .pass ∧ config0.timing = .arrivalDelayed ∧
        { config0 with timing := .originAligned }.timing = .originAligned ∧ ClockState.locked ≠ .free) ∧
      (LaneSet.mk (config0.lanes.a && !decide (LaneState.blocked = .blocked)) config0.lanes.b = ⟨false, false⟩) ∧
      (config0.lanes ≠ ⟨false, false⟩ ∧ { config0 with holdQuota := 1 }.holdQuota.toNat ≤ (queued.entry 0).held) ∧
      ((active0.entry 0).held < config0.holdQuota.toNat ∧
        ({ active0 with pool := { active0.pool with freeCells := [] } } : State).pool.freeCells.length < (18 + 63) / 64) ∧
      (active0.freeDescs ≠ 0 ∧ (18 + 63) / 64 ≤ active0.pool.freeCells.length) := by decide +kernel

theorem test_meets_TransitAdmissionUnderItsThreeConditions :
    (linkUp.laneA.state ≠ .blocked ∧ linkUp.transitCount < 32 ∧ linkUp.freeDescs ≠ 0 ∧
        (context0.declared + 63) / 64 ≤ linkUp.pool.freeCells.length) ∧
      ¬({ linkUp with laneA := { LaneUnit.reset with state := .blocked } } : State).laneA.state ≠ .blocked := by
  decide +kernel

theorem test_meets_ReservationsAreCompletedOrGivenBack :
    queued.desc 0 = some held0 ∧ context0Classified.classified = some ⟨0, .active, config0⟩ ∧
      context0.classified = none := by decide +kernel

/-- Two queued descriptors with time 5 and the last time below half the count, and a new one with time 5 and the last
admission order below half of theirs. -/
def insertion : State :=
  ((State.reset.setDesc 0 (some held0)).setDesc 1 (some { held0 with release := 0x7FFFFFFFFFFF, order := 1 })).setDesc 2
    (some { held0 with order := 0x7FFFFFFF })

theorem test_meets_InsertionKeepsTheReleaseOrder :
    let key := fun (d : DescNo) => if d = 0 then (5, 0) else if d = 1 then (2 ^ 47 - 1, 1) else (5, 2 ^ 31 - 1)
    (∀ x ∈ [(2 : DescNo), 0, 1], ∃ r, insertion.desc x = some r ∧ key x = ((r.release - 0).toNat, (r.order - 0).toNat) ∧
        (key x).1 < 2 ^ 47 ∧ (key x).2 < 2 ^ 31) ∧
      [(0 : DescNo), 1].Pairwise (fun x y => (key x).1 < (key y).1 ∨ (key x).1 = (key y).1 ∧ (key x).2 < (key y).2) ∧
      ∀ x ∈ [(0 : DescNo), 1], key x ≠ key 2 := by
  refine ⟨?_, by decide +kernel, by decide +kernel⟩
  intro x hx
  rcases List.mem_cons.1 hx with rfl | hx
  · exact ⟨{ held0 with order := 0x7FFFFFFF }, by decide +kernel⟩
  rcases List.mem_cons.1 hx with rfl | hx
  · exact ⟨held0, by decide +kernel⟩
  rcases List.mem_cons.1 hx with rfl | hx
  · exact ⟨{ held0 with release := 0x7FFFFFFFFFFF, order := 1 }, by decide +kernel⟩
  · cases hx

theorem test_insertion_at_half_the_count : insertRelease insertion 2 [0, 1] = [0, 2, 1] := by decide +kernel

theorem test_meets_CopiesCarryCorrectCheckWords : 5 ≤ (List.replicate 5 (0 : Byte)).length := by decide

theorem test_meets_DescriptorsLeaveLanesAndAreFreed :
    queued.desc 0 = some held0 ∧ held0.stream = .slot 0 ∧
      (State.reset.setDesc 0 (some heldTransit)).desc 0 = some heldTransit ∧ heldTransit.stream = .transit := by
  decide +kernel

theorem test_accepts : Accepts (manager12 1) linkUp := by
  unfold Accepts
  decide +kernel

/-- An accepted FLUSH; and a gate whose one descriptor is HELD and being sent, which the FLUSH leaves. -/
theorem test_meets_FlushLeavesOnlyWhatIsBeingSent :
    Accepts (manager12 1) linkUp ∧
      (let s := sendingItem (.descriptor 0) 0
      (∀ d, d ≠ 0 → s.desc d = none) ∧ s.desc 0 = some held0 ∧ held0.condition = .held ∧
        held0.remaining ≠ ⟨false, false⟩ ∧ (flushDatapath s).desc 0 = some held0) :=
  ⟨test_accepts, by decide +kernel⟩

/-- A reply, a due notice, a transit frame and a data frame as the arbiter's choice, and a lane with no candidate. -/
theorem test_meets_SendsStartWithTheirFrames :
    queued.pins.resetN = true ∧ candidates .b queued = [] ∧
      (queued.laneA.state = .idle ∧ arbiterChoice .a queued = some ⟨.data 0, 5⟩) ∧
      arbiterChoice .a { linkUp with agent := { Agent.reset with replies := [reply0] } } = some ⟨.reply reply0, 0⟩ ∧
      arbiterChoice .a (withRecord .due) = some ⟨.notice record0, 3⟩ ∧
      arbiterChoice .a { State.reset.setDesc 0 (some heldTransit) with transitQueue := [0] } = some ⟨.transit 0, 5⟩ := by
  decide +kernel

theorem test_meets_SendEndFinishesTheItemAndTheLane :
    (linkUp.pins.resetN = true ∧ linkUp.laneA.sending = none) ∧
      ∀ item, (sendingItem item 0).laneA.sending = some ⟨item, [], 0⟩ ∧ (sendingItem item 0).pins.resetN = true :=
  ⟨⟨rfl, rfl⟩, fun _ => ⟨rfl, rfl⟩⟩

theorem test_meets_EnteringBlockedDropsTheQueues :
    (laneQueues .a queued).Nodup ∧ ∀ d ∈ laneQueues .a queued, ∃ r, queued.desc d = some r := by
  refine ⟨by decide +kernel, ?_⟩
  intro d hd
  have h : laneQueues .a queued = [0] := rfl
  rw [h, List.mem_singleton] at hd
  exact ⟨held0, by subst hd; decide +kernel⟩

/-- A stall timer at its start and at the limit; and a RESTART whose reply waits on the stalled lane. -/
theorem test_meets_WaitPausesAndStallBlocks :
    ((stalled 0).pins.resetN = true ∧ (stalled 0).laneA.state = .paused ∧ (stalled 0).laneA.stall = some 0) ∧
      (stalled 2500000).laneA.stall = some 2500000 ∧
      (let s := { stalled 0 with agent := { Agent.reset with state := .restarting } }
      s.agent.state = .restarting ∧ s.params.replyLane = .a ∧ sendingRestart s.laneA = false ∧
        sendingRestart s.laneB = false) := by decide +kernel

/-- A release time that is now, and one ahead. -/
theorem test_meets_ReleaseTimeComingMakesTheHeadACandidate :
    (queued.laneA.releaseQueue = [0] ∧ queued.desc 0 = some held0 ∧ queued.clock.slew < 4096) ∧
      (let s := { queued with clock := { Clock.reset with time := 5 } }
      s.pins.resetN = true ∧ (held0.release - s.clock.time).toNat < 2 ^ 46) ∧
      (let s := { queued with clock := Clock.reset }
      s.pins.resetN = true ∧ s.desc 0 = some held0 ∧ (held0.release - s.clock.time).toNat = 5) := by decide +kernel

theorem test_meets_LanesAreBlockedAndReopened : Accepts (manager12 1) linkUp ∧ 2 ≤ (2 : Byte).toNat :=
  ⟨test_accepts, by decide⟩

theorem test_meets_ClockCountsAndSlews :
    Clock.reset.pending = 0 ∧
      ({ Clock.reset with pending := 1, slew := 4094 }.pending ≠ 0 ∧
        { Clock.reset with pending := 1, slew := 4094 }.slew < 4095) ∧
      { Clock.reset with pending := -1, slew := 4095 }.slew = 4095 ∧
      (let s := { State.reset with clock := { Clock.reset with pending := -1, slew := 4095 } }
      s.pins.resetN = true ∧ s.clock.slew < 4096 ∧ s.clock.pending ≠ 0) := by decide +kernel

/-- A holdover timer at its start and at the timeout. -/
theorem test_meets_TimeFramesSetTheClockAndHoldoverLosesIt :
    ∀ e, ({ State.reset with clock := { Clock.reset with holdover := some e } } : State).pins.resetN = true ∧
      ({ State.reset with clock := { Clock.reset with holdover := some e } } : State).clock.holdover = some e :=
  fun _ => ⟨rfl, rfl⟩

theorem test_meets_TimeSetSetsTheCount : Accepts (manager12 1) linkUp := test_accepts

theorem test_meets_ChangesAreCheckedAndStaged :
    Accepts (manager12 1) linkUp ∧ changeOf operands0 = some (.setEntry 0 .active config0 false) :=
  ⟨test_accepts, by decide +kernel⟩

theorem test_meets_StagedChangesAreWithdrawn : Accepts (manager12 1) staged := by
  unfold Accepts
  decide +kernel

theorem test_meets_ValidationAndApplicationOfTheList :
    (staged.stage.changes.map Change.slot).Nodup ∧ .setEntry 0 .active config0 false ∈ staged.stage.changes ∧
      (let s := { queued with stage := ⟨[.retire 0], some 12, .idle, some 0⟩ }
      (s.stage.changes.map Change.slot).Nodup ∧ .retire 0 ∈ s.stage.changes) := by decide +kernel

theorem test_meets_CommitsAreMadeScheduledAndCancelled : Accepts (manager12 1) (scheduled 9) := by
  unfold Accepts
  decide +kernel

/-- A time that is now, the farthest the clause admits, and a running staging timer. -/
theorem test_meets_StageTimersRunOut :
    (∀ t, (scheduled t).pins.resetN = true ∧ (scheduled t).stage.commit = .scheduled t ∧
        (scheduled t).clock.slew < 4096) ∧
      ((0 : Time) - (scheduled 0).clock.time).toNat < 2 ^ 46 ∧
      ((70368744177663 : Time) - (scheduled 0).clock.time).toNat < 2 ^ 46 ∧
      staged.pins.resetN = true ∧ staged.stage.timer = some 0 := by
  refine ⟨fun t => ⟨rfl, rfl, ?_⟩, by decide +kernel⟩
  show 0 < 4096
  decide

theorem test_meets_RaisesFoldQueueOrAreLost :
    ∀ n ∈ ({ withRecord .due with notices := ⟨[{ record0 with count := 255 }], 1, false⟩ } : State).notices.queue,
      n.count ≤ 255 := by decide +kernel

/-- A sequence with no record; a record changed during its send; one without retries; one with; a WAITING record under
an open and under a BLOCKED notice lane. -/
theorem test_meets_NoticeRecordsAreSentRetriedAndAcknowledged :
    (∀ c, ((withRecord c).notices.queue.map (·.sequence)).Nodup) ∧
      { record0 with sequence := 1 }.sequence ∉ (withRecord .due).notices.queue.map (·.sequence) ∧
      ({ record0 with condition := .inFlight true } : Notice) ∈ (withRecord (.inFlight true)).notices.queue ∧
      (let s := { State.reset with notices := ⟨[{ record0 with condition := .inFlight false, retriesLeft := 0 }], 1, false⟩ }
      ({ record0 with condition := .inFlight false, retriesLeft := 0 } : Notice) ∈ s.notices.queue) ∧
      ({ record0 with condition := .inFlight false }.retriesLeft ≠ 0 ∧
        ({ record0 with condition := .inFlight false } : Notice) ∈ (withRecord (.inFlight false)).notices.queue) ∧
      ((withRecord (.waiting 0)).pins.resetN = true ∧ (withRecord (.waiting 0)).laneA.state ≠ .blocked ∧
        ({ record0 with condition := .waiting 0 } : Notice) ∈ (withRecord (.waiting 0)).notices.queue) ∧
      (let s := { withRecord (.waiting 0) with laneA := { LaneUnit.reset with state := .blocked } }
      (s.lane s.params.noticeLane).state = .blocked) := by
  refine ⟨fun c => by simp [withRecord], ?_⟩
  decide +kernel

theorem test_accepts_with_a_record : Accepts (manager12 1) (withRecord .due) := by
  unfold Accepts
  decide +kernel

/-- A request row taken at once; and a READ-STATUS that waited, with a request behind it. -/
theorem test_meets_StatusAndTimeAreReadAtOneInstant :
    Accepts (manager12 1) linkUp ∧
      (let a := { Agent.reset with
          state := .working
          requests := [⟨12, 1, 0x01, [], false⟩, ⟨3, 1, 0x24, [], false⟩] }
      a.state = .working ∧ a.requests = ⟨(manager12 1).manager, (manager12 1).txn, 0x01, [], (manager12 1).allGates⟩ ::
            [⟨3, 1, 0x24, [], false⟩] ∧ a.replies.length < 8 ∧ (manager12 1).manager ≠ 0 ∧
        repetition a.managers (manager12 1).manager (manager12 1).txn = none) :=
  ⟨test_accepts, by decide +kernel⟩

/-- The boundaries of slots and tags, a tag no slot holds, and one that slot 0 holds. -/
theorem test_meets_EntriesTagsAndStagedChangesAreRead :
    Accepts (manager12 1) active0 ∧ (64 ≤ (64 : Byte).toNat ∧ (63 : Byte).toNat = (63 : Slot).val) ∧
      (0xF000 ≤ (0xF000 : Tag).toNat ∧ (0xEFFF : Tag).toNat < 0xF000) ∧
      (∀ k, (active0.entry k).state ≠ .vacant → (active0.entry k).config.tag ≠ 0xEFFF) ∧
      (TableLaw active0 ∧ (active0.entry 0).state ≠ .vacant ∧ (active0.entry 0).config.tag = 0x0150) := by
  refine ⟨?_, by decide, by decide, by decide +kernel, ?_, by decide +kernel, by decide +kernel⟩
  · unfold Accepts
    decide +kernel
  · unfold TableLaw ConfigInRange
    decide +kernel

theorem test_meets_CountersAreReadAndCleared :
    Accepts (manager12 1) active0 ∧ 64 ≤ (64 : Byte).toNat ∧ 2 ≤ (2 : Byte).toNat ∧
      (63 : Byte).toNat = (63 : Slot).val ∧ (1 : Byte).toNat < 2 := by
  refine ⟨?_, by decide⟩
  unfold Accepts
  decide +kernel

/-- The trap states; offsets at and just below the kept length; operands at the ends of their ranges and beyond. -/
theorem test_meets_TrapIsReadArmedAndDisarmed :
    (Accepts (manager12 1) trapHeld ∧ Accepts (manager12 1) State.reset) ∧
      (State.reset.trap.state = .idle ∧
        ({ State.reset with trap := { Trap.reset with state := .filling } } : State).trap.state = .filling) ∧
      (trapHeld.trap.state = .held ∧ trapHeld.trap.record = some (captureRecord Trap.reset context0 .good 40) ∧
        trapHeld.trap.buffer.length ≤ (40 : BitVec 16).toNat ∧ (39 : BitVec 16).toNat < trapHeld.trap.buffer.length) ∧
      (let o : TrapOperands := ⟨1, 0, 1, 3, 1⟩
      o.tagSelect.toNat ≤ 1 ∧ o.kind.toNat ≤ 5 ∧ o.condition.toNat ≤ 3 ∧ o.mode.toNat ≤ 1 ∧
        (2 ≤ o.condition.toNat → o.kind = 1)) ∧
      ¬(TrapOperands.mk 2 0 5 1 0).tagSelect.toNat ≤ 1 := by
  refine ⟨⟨?_, ?_⟩, by decide +kernel, by decide +kernel, by decide, by decide⟩ <;>
    (unfold Accepts; decide +kernel)

theorem test_meets_ParametersAreReadAndSet :
    Accepts (manager12 1) linkUp ∧ ParamLaw linkUp.params ∧ (13 : Byte) ≠ 14 ∧ ¬((61 : BitVec 32).toNat ≤ 60) ∧
      (65535 : BitVec 32).toNat ≤ 65535 := by
  refine ⟨test_accepts, ?_, by decide, by decide, by decide⟩
  unfold ParamLaw
  decide

theorem test_meets_ParametersTakeEffectAtOnce : Accepts (manager12 1) linkUp ∧ ParamLaw linkUp.params :=
  ⟨test_accepts, test_meets_ParametersAreReadAndSet.2.1⟩

/-- A RESTART with its reply lane open, and BLOCKED; the marked reply being sent; and the reply lane BLOCK-PENDING with
another item while the marked reply waits. -/
theorem test_meets_RestartEndsWithItsReply :
    (Accepts (manager12 1) linkUp ∧ RestartLaw linkUp ∧ (linkUp.lane linkUp.params.replyLane).state ≠ .blocked) ∧
      (let s := { linkUp with laneA := { LaneUnit.reset with state := .blocked } }
      Accepts (manager12 1) s ∧ RestartLaw s ∧ (s.lane s.params.replyLane).state = .blocked) ∧
      (let r := { reply0 with restart := true }
      let s := { sendingItem (.reply r) 0 with agent := { Agent.reset with state := .restarting } }
      s.pins.resetN = true ∧ s.agent.state = .restarting ∧ (s.lane .a).sending = some ⟨.reply r, [], 0⟩ ∧
        sendingRestart (s.lane .b) = false ∧ ∀ x ∈ s.agent.replies, x.restart = false) ∧
      (let r := { reply0 with restart := true }
      let s := { queued with
          agent := { Agent.reset with state := .restarting, replies := [r] }
          laneA := ⟨.blockPending, [], some ⟨.descriptor 0, [], 0⟩, none⟩ }
      s.agent.state = .restarting ∧ (s.lane .a).sending = some ⟨.descriptor 0, [], 0⟩ ∧
        sendingRestart (s.lane .b) = false ∧ s.params.replyLane = .a ∧ (s.lane .a).state = .blockPending) := by
  unfold Accepts RestartLaw
  decide +kernel

theorem test_meets_BadAndRepeatedRequestsAreAnswered :
    (linkUp.pins.resetN = true ∧ linkUp.agent.state = .ready ∧ linkUp.agent.requests = [] ∧
        linkUp.agent.replies.length < 8) ∧
      ((⟨0, 1, false⟩ : Sender).manager = 0) ∧ (Accepts (manager12 1) linkUp ∧ decodeRequest 0x24 [0] = none) ∧
      (let s := { linkUp with agent := { Agent.reset with managers := [⟨12, some ⟨1, .ok, true⟩⟩] } }
      (manager12 1).manager ≠ 0 ∧ AgentLaw s ∧
        ⟨(manager12 1).manager, some ⟨(manager12 1).txn, .ok, true⟩⟩ ∈ s.agent.managers) := by
  refine ⟨by decide +kernel, rfl, ⟨test_accepts, by decide⟩, ?_⟩
  unfold AgentLaw
  decide +kernel

/-- An Agent that is WORKING, one with a full reply queue, one that has no work interval, and one with a request
waiting. -/
theorem test_meets_RequestsAreTakenInAndRunInTurn :
    (∀ a, ({ State.reset with agent := a } : State).pins.resetN = true) ∧
      ({ Agent.reset with state := .working }.state = .working ∧ { Agent.reset with state := .working }.requests = []) ∧
      8 ≤ { Agent.reset with replies := List.replicate 8 reply0 }.replies.length ∧ Agent.reset.state ≠ .working ∧
      (let a := { Agent.reset with state := .working, requests := [⟨12, 1, 0x24, [], false⟩] }
      a.state = .working ∧ a.requests = ⟨12, 1, 0x24, [], false⟩ :: [] ∧ a.replies.length < 8) := by
  refine ⟨fun _ => rfl, ?_⟩
  decide +kernel

theorem test_meets_RequestsAndHeadersDecodeAsEncoded :
    decodeRequest 0x24 [] = some .flush ∧ (Instr.flush (manager12 1)).request = some (manager12 1, .flush) := by decide

/-- A RESTARTING Agent with its reply waiting, and a step from it. -/
theorem test_meets_AgentLawsAreKept :
    let s := { linkUp with
      agent := { Agent.reset with state := .restarting, replies := [{ reply0 with restart := true }] }
      pending := [.laneSendStart .a] }
    AgentLaw s ∧ RestartLaw s ∧ ∃ t, step s = .next t := by
  refine ⟨?_, ?_, _, rfl⟩
  · unfold AgentLaw
    decide +kernel
  · unfold RestartLaw
    decide +kernel

/-- A staged change and its commit. -/
theorem test_meets_TableAndListLawsAreKept :
    let s := { staged with pending := [.commit (manager12 9)] }
    ListLaw s.stage ∧ StagedInRange s.stage ∧ TableLaw s ∧ ∃ t, step s = .next t := by
  refine ⟨?_, ?_, ?_, _, rfl⟩
  · unfold ListLaw
    decide +kernel
  · intro c hc k into config reset h
    have h0 : c = .setEntry 0 .active config0 false := by simpa [staged] using hc
    rw [h0, Change.setEntry.injEq] at h
    obtain ⟨-, -, rfl, -⟩ := h
    unfold ConfigInRange
    decide
  · unfold TableLaw ConfigInRange
    decide +kernel

/-- A scheduled commit whose time comes. -/
theorem test_meets_CommitLawIsKept :
    let s := { scheduled 9 with pending := [.scheduledCommit] }
    CommitLaw s ∧ ∃ t, step s = .next t := by
  refine ⟨⟨fun t _ => by decide +kernel, by decide +kernel⟩, _, rfl⟩

/-- A queued record, a pending correction below the threshold, and a period that passes. -/
theorem test_meets_ParameterNoticeAndClockLawsAreKept :
    let s := { withRecord .due with
      params := { Params.reset with noticeDestination := 12 }
      clock := { Clock.reset with state := .locked, pending := -999, slew := 4095, holdover := some 0 }
      pending := [.slewIntervalExpiry] }
    ParamLaw s.params ∧ NoticeLaw s ∧ ClockLaw s ∧ ∃ t, step s = .next t := by
  refine ⟨?_, ?_, ?_, _, rfl⟩
  · unfold ParamLaw
    decide
  · unfold NoticeLaw
    decide +kernel
  · unfold ClockLaw
    decide

/-- A classified frame in reception at its end event. -/
theorem test_meets_CounterSumsAreKept :
    let s := { active0 with
      reception := some ⟨encodeHeader ⟨1, 0, 0x0150, 10, 0, 0⟩, some context0Classified⟩
      pending := [.endDelimiter] }
    CounterLaw s ∧ ∃ t, step s = .next t := by
  refine ⟨?_, _, rfl⟩
  unfold CounterLaw CountsAddUp
  decide +kernel

/-- A descriptor in use that holds cell 0, and a FLUSH. -/
theorem test_meets_StorageIsAccountedFor :
    let s := { queued with pending := [.flush (manager12 1)] }
    CellLaw s ∧ HeldLaw s ∧ ∃ t, step s = .next t := by
  refine ⟨?_, ?_, _, rfl⟩
  · have h : ownedCells { queued with pending := [.flush (manager12 1)] } = (List.range 1024).take 1 := by
      decide +kernel
    unfold CellLaw
    rw [h]
    have hf : queued.pool.freeCells = (List.range 1024).drop 1 := by simp only [queued]
    exact List.perm_append_comm.trans (by rw [hf, List.take_append_drop])
  · unfold HeldLaw
    decide +kernel

/-- A lane that sends the one descriptor in use, its send end to come, and a PAUSED lane with a candidate and its timer
running. -/
theorem test_meets_LaneLawsAreKept :
    (let s := { sendingItem (.descriptor 0) 0 with pending := [.laneSendEnd .a] }
    LaneLaw s ∧ QueueLaw s ∧ ∃ t, step s = .next t) ∧
      (let s := { stalled 0 with pending := [.stallTimerExpiry .a] }
      StallLaw s ∧ ∃ t, step s = .next t) := by
  have h (d : DescNo) (r : Descriptor) (hd : (sendingItem (.descriptor 0) 0).desc d = some r) : d = 0 ∧ r = held0 := by
    have h0 : ∀ d, ((sendingItem (.descriptor 0) 0).desc d).all (fun r => decide (d = 0 ∧ r = held0)) = true := by
      decide +kernel
    simpa [hd] using h0 d
  refine ⟨⟨?_, ⟨?_, ?_, ?_, ?_, ?_⟩, _, rfl⟩, ⟨?_, _, rfl⟩⟩
  · intro l
    cases l <;> decide +kernel
  · have hs : ∀ l d, sendingOn (sendingItem (.descriptor 0) 0) d l = true → l = .a ∧ d = 0 := by
      intro l
      cases l <;> decide +kernel
    refine fun l => ⟨?_, ?_, ?_, fun d hd => ?_⟩
    · cases l <;> decide +kernel
    · intro d hd
      cases l <;> cases hd
    · intro d hd
      cases l <;> cases hd
    · obtain ⟨rfl, rfl⟩ := hs l d hd
      exact ⟨held0, by decide +kernel⟩
  · intro d hd
    cases hd
  · intro d r hd
    obtain ⟨rfl, rfl⟩ := h d r hd
    decide
  · intro c d hc
    cases hc
  · intro _ d r hd
    obtain ⟨rfl, rfl⟩ := h d r hd
    refine ⟨by decide, fun _ l hl => ?_⟩
    revert hl
    cases l <;> decide +kernel
  · intro l
    cases l <;> decide +kernel

/-- A reception in progress under UP, and a HELD trap. -/
theorem test_meets_LinkAndTrapLawsAreKept :
    (let s := { pastHeader with pending := [.endDelimiter] }
    LinkLaw s ∧ ∃ t, step s = .next t) ∧
      (let s := { trapHeld with pending := [.startDelimiter] }
      TrapLaw s.trap ∧ ∃ t, step s = .next t) := by
  refine ⟨⟨?_, _, rfl⟩, ⟨?_, _, rfl⟩⟩
  · unfold LinkLaw
    decide +kernel
  · unfold TrapLaw
    decide +kernel

end Sys2Proof.Tests
end

/-! SUPPORT. What the datapath, the clock, the Change Stage and the Agent leave alone of the trunk's side of the gate:
one view of the state, and one lemma for each operation. -/

namespace Sys2Proof.Machine

open Sys2Proof

/-- The trunk's side of the gate: the queue of commands, the gate number, the link, whether its idle timer runs, whether
a reception is in progress, and the trap. -/
def trunkView (s : State) : List Instr × Byte × LinkState × Bool × Bool × Trap :=
  (s.pending, s.gateNumber, s.link, s.idleTimer.isSome, s.reception.isSome, s.trap)

/-! ### Updates of one block -/

@[simp] theorem trunkView_setLane (s : State) (l : Lane) (u : LaneUnit) : trunkView (s.setLane l u) = trunkView s := by
  simp [trunkView]
@[simp] theorem trunkView_setEntry (s : State) (k : Slot) (e : Entry) : trunkView (s.setEntry k e) = trunkView s := rfl
@[simp] theorem trunkView_modifyEntry (s : State) (k : Slot) (f : Entry → Entry) :
    trunkView (s.modifyEntry k f) = trunkView s := rfl
@[simp] theorem trunkView_setDesc (s : State) (d : DescNo) (r : Option Descriptor) :
    trunkView (s.setDesc d r) = trunkView s := rfl
@[simp] theorem trunkView_count (s : State) (f : GlobalCounters → GlobalCounters) :
    trunkView (s.count f) = trunkView s := rfl
@[simp] theorem trunkView_modifyContext (s : State) (f : Context → Context) :
    trunkView (s.modifyContext f) = trunkView s := by
  simp [trunkView, State.modifyContext]
@[simp] theorem trunkView_pins (s : State) (x : Pins) : trunkView { s with pins := x } = trunkView s := rfl
@[simp] theorem trunkView_table (s : State) (x : Vector Entry 64) : trunkView { s with table := x } = trunkView s := rfl
@[simp] theorem trunkView_clock (s : State) (x : Clock) : trunkView { s with clock := x } = trunkView s := rfl
@[simp] theorem trunkView_pool (s : State) (x : Pool) : trunkView { s with pool := x } = trunkView s := rfl
@[simp] theorem trunkView_transitQueue (s : State) (x : List DescNo) :
    trunkView { s with transitQueue := x } = trunkView s := rfl
@[simp] theorem trunkView_stage (s : State) (x : Stage) : trunkView { s with stage := x } = trunkView s := rfl
@[simp] theorem trunkView_agent (s : State) (x : Agent) : trunkView { s with agent := x } = trunkView s := rfl
@[simp] theorem trunkView_params (s : State) (x : Params) : trunkView { s with params := x } = trunkView s := rfl
@[simp] theorem trunkView_notices (s : State) (x : NoticeUnit) : trunkView { s with notices := x } = trunkView s := rfl
@[simp] theorem trunkView_counters (s : State) (x : GlobalCounters) :
    trunkView { s with counters := x } = trunkView s := rfl
@[simp] theorem trunkView_freeCount (s : State) (x : Nat) : trunkView { s with freeCount := x } = trunkView s := rfl

/-! ### Time, notices and storage given back -/

@[simp] theorem trunkView_raise (cls : NoticeClass) (slot : Option Slot) (tag : Tag) (detail : BitVec 32) (s : State) :
    trunkView (raise cls slot tag detail s) = trunkView s := by simp [trunkView]
@[simp] theorem trunkView_settle (s : State) : trunkView (settle s) = trunkView s := by simp [trunkView]
@[simp] theorem trunkView_elapse (n : Nat) (s : State) : trunkView (elapse n s) = trunkView s := by
  simp [trunkView, elapse]
@[simp] theorem trunkView_retireCheck (k : Slot) (s : State) : trunkView (retireCheck k s) = trunkView s := by
  simp [trunkView]
@[simp] theorem trunkView_freeDesc (d : DescNo) (s : State) : trunkView (freeDesc d s) = trunkView s := by
  simp [trunkView]
@[simp] theorem trunkView_dropLane (l : Lane) (d : DescNo) (s : State) : trunkView (dropLane l d s) = trunkView s := by
  simp [trunkView]
@[simp] theorem trunkView_compareRetries (s : State) : trunkView (compareRetries s) = trunkView s := rfl
@[simp] theorem trunkView_enterBlocked (l : Lane) (cause : BlockCause) (s : State) :
    trunkView (enterBlocked l cause s) = trunkView s := by simp [trunkView]
@[simp] theorem trunkView_discardReplies (s : State) : trunkView (discardReplies s) = trunkView s := rfl
@[simp] theorem trunkView_stagingExpired (s : State) : trunkView (stagingExpired s) = trunkView s := by
  simp [trunkView]
@[simp] theorem trunkView_applyChanges (s : State) : trunkView (applyChanges s) = trunkView s := by simp [trunkView]
@[simp] theorem trunkView_commitSignal (s : State) : trunkView (commitSignal s) = trunkView s := by simp [trunkView]
@[simp] theorem trunkView_useTimeFrame (m : Time) (tag : Tag) (arrival : Time) (s : State) :
    trunkView (useTimeFrame m tag arrival s) = trunkView s := by simp [trunkView]
@[simp] theorem trunkView_holdoverExpired (s : State) : trunkView (holdoverExpired s) = trunkView s := by
  simp [trunkView]
@[simp] theorem trunkView_watchCommit (s : State) : trunkView (watchCommit s) = trunkView s := by simp [trunkView]
@[simp] theorem trunkView_setTime (value : Time) (s : State) : trunkView (setTime value s) = trunkView s := by
  simp only [setTime, trunkView_watchCommit]
  split_ifs <;> simp

/-! ### Lanes -/

@[simp] theorem trunkView_endHold (s t : State) : trunkView (endHold s t) = trunkView t := by
  unfold endHold
  split <;> simp

@[simp] theorem trunkView_takeSequence (s : State) : trunkView (takeSequence s) = trunkView s := rfl

@[simp] theorem trunkView_beginSend (l : Lane) (item : SendItem) (frame : List Byte) (s : State) :
    trunkView (beginSend l item frame s) = trunkView s := by simp [beginSend]

/-- The start of a send moves lanes, queues, Agent and notices alone. -/
@[simp] theorem trunkView_startSource (l : Lane) (x : Source) (s : State) :
    trunkView (startSource l x s) = trunkView s := by
  cases x with
  | reply r => simp [startSource, startReply]
  | notice n => simp [startSource, startNotice]
  | transit d =>
    simp only [startSource, startTransit]
    split <;> simp
  | data d =>
    simp only [startSource, startData]
    split
    · rfl
    · split <;> simp

@[simp] theorem trunkView_sendStart (l : Lane) (s : State) : trunkView (sendStart l s) = trunkView s := by
  unfold sendStart
  split
  · split <;> simp
  · rfl

@[simp] theorem trunkView_finishItem (l : Lane) (item : SendItem) (s : State) :
    trunkView (finishItem l item s) = trunkView s := by
  cases item with
  | reply r => rfl
  | notice n => simp [finishItem, trunkView]
  | descriptor d =>
    simp only [finishItem]
    split
    · rfl
    · split <;> simp [trunkView]

@[simp] theorem trunkView_sendEnd (l : Lane) (s : State) : trunkView (sendEnd l s) = trunkView s := by
  unfold sendEnd afterSend
  split
  · rfl
  · split <;> simp

@[simp] theorem trunkView_waitAsserted (l : Lane) (s : State) : trunkView (waitAsserted l s) = trunkView s := by
  unfold waitAsserted
  split <;> simp

@[simp] theorem trunkView_waitReleased (l : Lane) (s : State) : trunkView (waitReleased l s) = trunkView s := by
  unfold waitReleased
  split <;> simp

@[simp] theorem trunkView_setWait (l : Lane) (level : Bool) (s : State) :
    trunkView (setWait l level s) = trunkView s := by
  cases l <;> rfl

/-! ### Admission and the Hold Buffer -/

@[simp] theorem trunkView_takeReservation (f : ReservationFor) (d : DescNo) (s : State) :
    trunkView (takeReservation f d s) = trunkView s := rfl

@[simp] theorem trunkView_skipBlocked (k : Slot) (lanes : LaneSet) (l : Lane) (s : State) :
    trunkView (skipBlocked k lanes l s) = trunkView s := by
  unfold skipBlocked
  split <;> simp

@[simp] theorem trunkView_admitPool (cl : Classified) (t : Time) (lanes : LaneSet) (data : List Byte) (w : HeaderWork) :
    trunkView (admitPool cl t lanes data w).state = trunkView w.state := by
  simp only [admitPool]
  split
  · split <;> simp
  · simp

@[simp] theorem trunkView_admitQuota (cl : Classified) (t : Time) (lanes : LaneSet) (data : List Byte)
    (w : HeaderWork) :
    trunkView (admitQuota cl t lanes data w).state = trunkView w.state := by
  simp only [admitQuota]
  split <;> simp

@[simp] theorem trunkView_admitLanes (cl : Classified) (t : Time) (data : List Byte) (w : HeaderWork) :
    trunkView (admitLanes cl t data w).state = trunkView w.state := by
  simp only [admitLanes]
  split <;> simp

@[simp] theorem trunkView_admitRelease (cl : Classified) (data : List Byte) (w : HeaderWork) :
    trunkView (admitRelease cl data w).state = trunkView w.state := by
  simp only [admitRelease]
  split <;> simp

@[simp] theorem trunkView_admitStream (cl : Classified) (data : List Byte) (w : HeaderWork) :
    trunkView (admitStream cl data w).state = trunkView w.state := by
  unfold admitStream
  split
  · rfl
  · split <;> simp

@[simp] theorem trunkView_admitTransit (data : List Byte) (w : HeaderWork) :
    trunkView (admitTransit data w).state = trunkView w.state := by
  simp only [admitTransit]
  split <;> simp

@[simp] theorem trunkView_storeByte (c : Context) (received : Nat) (b : Byte) (s : State) :
    trunkView (storeByte c received b s) = trunkView s := by
  unfold storeByte
  split
  · rfl
  · split
    · rfl
    · split <;> simp

@[simp] theorem trunkView_completeOnLane (lanes : LaneSet) (d : DescNo) (s : State) (l : Lane) :
    trunkView (completeOnLane lanes d s l) = trunkView s := by
  unfold completeOnLane enqueueRelease
  split
  · split <;> simp
  · rfl

@[simp] theorem trunkView_completeStream (cl : Classified) (flags : Byte) (errored : Bool) (d : DescNo) (s : State) :
    trunkView (completeStream cl flags errored d s) = trunkView s := by
  unfold completeStream
  split <;> simp

@[simp] theorem trunkView_completeTransit (d : DescNo) (s : State) : trunkView (completeTransit d s) = trunkView s := by
  unfold completeTransit
  split
  · rfl
  · simp only
    split
    · simp
    · rfl

@[simp] theorem trunkView_endReservation (c : Context) (outcome : EndOutcome) (d : DescNo) (s : State) :
    trunkView (endReservation c outcome d s) = trunkView s := by
  unfold endReservation
  split
  case h_2 => split <;> simp
  all_goals simp

@[simp] theorem trunkView_flushReservation (s : State) : trunkView (flushReservation s) = trunkView s := by
  unfold flushReservation
  split
  · simp
  · simp only
    split <;> simp

@[simp] theorem trunkView_flushDescriptor (s : State) (d : DescNo) : trunkView (flushDescriptor s d) = trunkView s := by
  have hl (r : Descriptor) (t : State) (l : Lane) :
      trunkView (if r.remaining.has l && !sendingOn s d l then dropLane l d t else t) = trunkView t := by
    split <;> simp
  unfold flushDescriptor
  split
  · rfl
  · split
    · simp only [List.foldl_cons, List.foldl_nil, hl]
    · rfl

/-- A FLUSH touches entries, descriptors and queues, and of the reception its context alone. -/
@[simp] theorem trunkView_flushDatapath (s : State) : trunkView (flushDatapath s) = trunkView s := by
  have hf (ds : List DescNo) (t : State) : trunkView (ds.foldl flushDescriptor t) = trunkView t := by
    induction ds generalizing t with
    | nil => rfl
    | cons d ds ih => rw [List.foldl_cons, ih, trunkView_flushDescriptor]
  have he (t : State) : trunkView (emptyQueues t) = trunkView t := rfl
  simp [flushDatapath, clearContinuity, hf, he]

/-! ### Requests -/

@[simp] theorem trunkView_compareStall (l : Lane) (s : State) : trunkView (compareStall l s) = trunkView s := by
  unfold compareStall
  split
  · split <;> simp
  · rfl

@[simp] theorem trunkView_setReplyLane (l : Lane) (s : State) : trunkView (setReplyLane l s) = trunkView s := by
  simp only [setReplyLane]
  split <;> simp

@[simp] theorem trunkView_setNoticeLane (l : Lane) (s : State) : trunkView (setNoticeLane l s) = trunkView s := by
  simp [setNoticeLane]

@[simp] theorem trunkView_setNoticeDestination (d : Byte) (s : State) :
    trunkView (setNoticeDestination d s) = trunkView s := by
  simp only [setNoticeDestination]
  split <;> rfl

@[simp] theorem trunkView_setRetryInterval (v : Nat) (s : State) : trunkView (setRetryInterval v s) = trunkView s := by
  simp only [setRetryInterval]
  split <;> simp

@[simp] theorem trunkView_setStepThreshold (v : Nat) (s : State) : trunkView (setStepThreshold v s) = trunkView s := rfl

@[simp] theorem trunkView_setHoldoverTimeout (v : Nat) (s : State) :
    trunkView (setHoldoverTimeout v s) = trunkView s := by
  simp only [setHoldoverTimeout]
  split
  · split <;> simp
  · simp

@[simp] theorem trunkView_setStallLimit (v : Nat) (s : State) : trunkView (setStallLimit v s) = trunkView s := by
  simp [setStallLimit]

@[simp] theorem trunkView_setStagingTimeout (v : Nat) (s : State) :
    trunkView (setStagingTimeout v s) = trunkView s := by
  simp only [setStagingTimeout]
  split
  · split <;> simp
  · simp

/-- The setters one by one: a parameter's new value never reaches the trunk. -/
@[simp] theorem trunkView_applyParam (id : Byte) (v : Nat) (s : State) :
    trunkView (applyParam id v s) = trunkView s := by
  simp only [applyParam, apply_ite trunkView, trunkView_setReplyLane, trunkView_setNoticeLane,
    trunkView_setNoticeDestination, trunkView_setRetryInterval, trunkView_setStepThreshold,
    trunkView_setHoldoverTimeout, trunkView_setStallLimit, trunkView_setStagingTimeout, trunkView_params, ite_self]

@[simp] theorem trunkView_stageAccepted (m : Byte) (c : Change) (s : State) :
    trunkView (stageAccepted m c s).state = trunkView s := by
  unfold stageAccepted
  split
  · rfl
  · rfl

@[simp] theorem trunkView_blockLane (l : Lane) (s : State) : trunkView (blockLane l s) = trunkView s := by
  unfold blockLane
  split <;> simp

@[simp] theorem trunkView_reopenLane (l : Lane) (s : State) : trunkView (reopenLane l s) = trunkView s := by
  simp [reopenLane]

/-- A reading request leaves the gate, but for cleared counters and the count of free values. -/
theorem trunkView_perform_read (m : Byte) {r : Request} (h : r.code.toNat < 0x10) (s : State) :
    trunkView (perform m r s).state = trunkView s := by
  cases r with
  | readStatus => rfl
  | readTime => rfl
  | readEntry slot =>
    simp only [perform, doReadEntry]
    split <;> rfl
  | findTag tag =>
    simp only [perform, doFindTag]
    split
    · rfl
    · split <;> rfl
  | readCounters scope slot clear =>
    simp only [perform, doReadCounters, doReadSlotCounters, doReadGlobalCounters]
    split
    · split
      · rfl
      · simp only
        split <;> simp
    · simp only
      split <;> simp
    · rfl
  | readStaged index =>
    simp only [perform, doReadStaged]
    split <;> rfl
  | readParam id =>
    simp only [perform, doReadParam]
    split <;> rfl
  | readTrap offset =>
    simp only [perform, doReadTrap]
    split
    · rfl
    · rfl
    · rfl
    · split
      · rfl
      · split
        · simp only
          split <;> simp
        · rfl
  | _ => simp [Request.code] at h

/-- A request that changes the gate leaves the trunk's side of it, but for the two requests to the trap. -/
theorem trunkView_perform (m : Byte) {r : Request} (harm : ∀ ops, r ≠ .armTrap ops) (hdisarm : r ≠ .disarmTrap)
    (s : State) : trunkView (perform m r s).state = trunkView s := by
  cases r with
  | stageEntry e =>
    simp only [perform, doStageEntry]
    split_ifs
    · rfl
    · rfl
    · split <;> simp [refusal]
  | stageRetire slot =>
    simp only [perform, doStageRetire]
    split_ifs
    · rfl
    · rfl
    · split <;> simp [refusal]
  | unstage slot =>
    simp only [perform, doUnstage]
    split_ifs
    · rfl
    · rfl
    · split
      · rfl
      · split <;> rfl
  | discardStaged =>
    simp only [perform, doDiscardStaged]
    split_ifs <;> rfl
  | commit =>
    simp only [perform, doCommit]
    split_ifs
    · rfl
    · rfl
    · rfl
    · split <;> simp
  | commitAt t =>
    simp only [perform, doCommitAt]
    split_ifs <;> rfl
  | cancelCommit =>
    simp only [perform, doCancelCommit]
    split_ifs <;> rfl
  | setParam id value =>
    simp only [perform, doSetParam]
    split
    · rfl
    · split_ifs <;> simp [refusal]
  | timeSet value => simp [perform, doTimeSet]
  | laneBlock lane =>
    simp only [perform, doLaneBlock]
    split <;> simp [refusal]
  | laneResume lane =>
    simp only [perform, doLaneResume]
    split
    · rfl
    · split_ifs <;> simp [refusal]
  | flush => simp [perform, doFlush]
  | restart => rfl
  | armTrap ops => exact absurd rfl (harm ops)
  | disarmTrap => exact absurd rfl hdisarm
  | ackNotices n =>
    simp only [perform, doAckNotices]
    split <;> rfl
  | _ => exact trunkView_perform_read m (by simp [Request.code]) s

/-! ### Replies and execution -/

@[simp] theorem trunkView_restartStaging (m : Byte) (s : State) : trunkView (restartStaging m s) = trunkView s := by
  simp [trunkView]

@[simp] theorem trunkView_rememberRequest (m : Byte) (l : LastRequest) (s : State) :
    trunkView (rememberRequest m l s) = trunkView s := rfl

@[simp] theorem trunkView_createReply (r : Reply) (s : State) : trunkView (createReply r s) = trunkView s := by
  unfold createReply
  simp only
  split
  · simp
  · exact (trunkView_agent (settle s) _).trans (trunkView_settle s)

@[simp] theorem trunkView_enterWork (a : AgentState) (s : State) : trunkView (enterWork a s) = trunkView s := rfl

@[simp] theorem trunkView_intake (q : RequestRecord) (s : State) : trunkView (intake q s) = trunkView s := by
  unfold intake
  split
  · simp
  · split <;> simp

end Sys2Proof.Machine

/-! SUPPORT. What every step keeps of the trunk's side of the gate: the queue of commands, the gate number up to a hard
reset, the link's law and the trap's. -/

namespace Sys2Proof.Machine

open Sys2Proof

/-! ### What is kept short of a hard reset -/

/-- The trunk's side of the gate is kept: no reception begins, and the trap's law survives. -/
structure TrunkKept (s t : State) : Prop where
  pending : t.pending = s.pending
  gateNumber : t.gateNumber = s.gateNumber
  link : t.link = s.link
  idle : t.idleTimer.isSome = s.idleTimer.isSome
  reception : t.reception.isSome = true → s.reception.isSome = true
  trap : TrapLaw s.trap → TrapLaw t.trap

/-- An operation that leaves the whole view. -/
theorem TrunkKept.of_view {s t : State} (h : trunkView t = trunkView s) : TrunkKept s t := by
  simp only [trunkView, Prod.mk.injEq] at h
  obtain ⟨hpending, hgate, hlink, hidle, hreception, htrap⟩ := h
  exact ⟨hpending, hgate, hlink, hidle, fun hr => hreception ▸ hr, fun ht => htrap ▸ ht⟩

theorem TrunkKept.refl (s : State) : TrunkKept s s := .of_view rfl

theorem TrunkKept.trans {s t u : State} (h : TrunkKept s t) (h' : TrunkKept t u) : TrunkKept s u where
  pending := h'.pending.trans h.pending
  gateNumber := h'.gateNumber.trans h.gateNumber
  link := h'.link.trans h.link
  idle := h'.idle.trans h.idle
  reception := fun hr => h.reception (h'.reception hr)
  trap := fun ht => h'.trap (h.trap ht)

/-- Work of which the view stays, done after other work. -/
theorem TrunkKept.then_view {s t u : State} (h : TrunkKept s t) (hu : trunkView u = trunkView t) : TrunkKept s u :=
  h.trans (.of_view hu)

/-- A new trap alone. -/
theorem TrunkKept.of_trap {s : State} {x : Trap} (h : TrapLaw s.trap → TrapLaw x) : TrunkKept s { s with trap := x } :=
  ⟨rfl, rfl, rfl, rfl, id, h⟩

/-! ### The trap -/

/-- A capture starts with at most the Trap Buffer's capacity. -/
theorem offerTrap_trunkKept (c : Context) (bytes : List Byte) (s : State) : TrunkKept s (offerTrap c bytes s) := by
  unfold offerTrap
  split
  · exact .of_trap fun _ => by simp [TrapLaw, trapCapacity]
  · exact .refl s

/-- A byte is copied only while the Trap Buffer has room. -/
theorem copyByte_trunkKept (b : Byte) (s : State) : TrunkKept s (copyByte b s) := by
  unfold copyByte
  split
  · rename_i hroom
    obtain ⟨hstate, hlength⟩ := hroom
    rw [trapCapacity] at hlength
    refine .of_trap fun ⟨_, _, hfilling, _⟩ => ?_
    simp only [TrapLaw, hstate, List.length_append, List.length_singleton, hfilling hstate]
    exact ⟨by omega, by simp⟩
  · exact .refl s

/-- A capture that ends is dropped, or kept with its record. -/
theorem endCapture_trunkKept (c : Context) (outcome : EndOutcome) (received : Nat) (s : State) :
    TrunkKept s (endCapture c outcome received s) := by
  unfold endCapture
  split
  · split
    · exact .of_trap fun _ => by simp [TrapLaw]
    · have hheld : TrunkKept s _ := .of_trap
        (x := { s.trap with
          state := .held
          record := some (captureRecord s.trap c outcome received)
          generation := s.trap.generation + 1 })
        fun ⟨hlength, _⟩ => by simp [TrapLaw, hlength]
      simp only
      split
      · exact hheld.then_view (trunkView_raise ..)
      · exact hheld
  · exact .refl s

/-! ### Requests -/

theorem perform_trunkKept (m : Byte) (r : Request) (s : State) : TrunkKept s (perform m r s).state := by
  cases r with
  | armTrap ops =>
    simp only [perform, doArmTrap]
    split
    · exact .refl s
    · exact .of_trap fun _ => by simp [TrapLaw]
  | disarmTrap => exact .of_trap fun _ => by simp [TrapLaw]
  | _ => exact .of_view (trunkView_perform m (by simp) (by simp) s)

theorem executeNew_trunkKept (q : RequestRecord) (s : State) : TrunkKept s (executeNew q s) := by
  unfold executeNew
  split
  · exact .of_view (by simp)
  · rename_i r _
    exact (perform_trunkKept q.manager r s).then_view (by simp)

theorem execute_trunkKept (q : RequestRecord) (s : State) : TrunkKept s (execute q s) := by
  have hs : TrunkKept s (restartStaging q.manager s) := .of_view (by simp)
  simp only [execute]
  split
  · exact hs.then_view (by simp)
  · split
    · exact (hs.then_view (trunkView_agent ..)).then_view (by rw [trunkView_enterWork, trunkView_createReply])
    · exact (hs.then_view (trunkView_agent ..)).trans (executeNew_trunkKept q _)

/-! ### The hard reset and the stall timers -/

/-- A lane put back as it is. -/
@[simp] theorem State.setLane_lane (s : State) (l : Lane) : s.setLane l (s.lane l) = s := by cases l <;> rfl

/-- Judging a stopped stall timer of a lane with no candidate changes nothing. -/
theorem syncStall_of_no_candidate {l : Lane} {s : State} (hstall : (s.lane l).stall = none)
    (hcandidates : candidates l s = []) : syncStall l s = s := by
  have hlane : { s.lane l with stall := none } = s.lane l := by rw [← hstall]
  simp [syncStall, hasCandidate, hcandidates, hlane]

theorem hardReset_lane_stall (l : Lane) (s : State) : ((hardReset s).lane l).stall = none := by
  unfold hardReset laneAfterReset linkAfterReset
  cases l <;> split_ifs <;> rfl

/-- After a hard reset no reply, notice or descriptor waits for a lane. -/
theorem hardReset_candidates (l : Lane) (s : State) : candidates l (hardReset s) = [] := by
  unfold hardReset laneAfterReset linkAfterReset
  cases l <;> split_ifs <;> rfl

/-- A hard reset leaves the stall timers as they are judged. -/
theorem settle_hardReset (s : State) : settle (hardReset s) = hardReset s := by
  rw [settle, syncStall_of_no_candidate (hardReset_lane_stall .a s) (hardReset_candidates .a s),
    syncStall_of_no_candidate (hardReset_lane_stall .b s) (hardReset_candidates .b s)]

theorem hardReset_requests (s : State) : (hardReset s).agent.requests = [] := by
  unfold hardReset laneAfterReset linkAfterReset
  split_ifs <;> rfl

/-- The idle timer of a reset gate runs exactly where a signal has brought its link to ACQUIRING. -/
theorem linkLaw_hardReset (s : State) : LinkLaw (hardReset s) := by
  unfold LinkLaw hardReset laneAfterReset linkAfterReset
  split_ifs <;> simp [State.reset]

theorem trapLaw_hardReset (s : State) : TrapLaw (hardReset s).trap := by
  have h : (hardReset s).trap = Trap.reset := by
    unfold hardReset laneAfterReset linkAfterReset
    split_ifs <;> simp [State.reset]
  simp [h, TrapLaw, Trap.reset]

/-- The trunk's side is kept, or the gate is right after a hard reset with its queue of commands. -/
def KeptOrReset (s t : State) : Prop := TrunkKept s t ∨ ∃ u, t = hardReset u ∧ u.pending = s.pending

theorem KeptOrReset.trans_kept {s t u : State} (h : TrunkKept s t) (h' : KeptOrReset t u) : KeptOrReset s u := by
  obtain h' | ⟨v, rfl, hv⟩ := h'
  · exact .inl (h.trans h')
  · exact .inr ⟨v, rfl, hv.trans h.pending⟩

theorem restartCheck_keptOrReset (s : State) : KeptOrReset s (restartCheck s) := by
  unfold restartCheck
  split
  · exact .inr ⟨s, rfl, rfl⟩
  · exact .inl (.refl s)

theorem agentRun_keptOrReset (s : State) : KeptOrReset s (agentRun s) := by
  unfold agentRun
  split
  · exact .inl (.refl s)
  · split
    · exact .trans_kept ((TrunkKept.of_view (trunkView_agent ..)).trans (execute_trunkKept ..))
        (restartCheck_keptOrReset _)
    · exact .inl (.refl s)

/-- A hard reset leaves the Agent nothing to run. -/
theorem agentRun_restartCheck_keptOrReset (s : State) : KeptOrReset s (agentRun (restartCheck s)) := by
  obtain h | ⟨u, hu, hp⟩ := restartCheck_keptOrReset s
  · exact .trans_kept h (agentRun_keptOrReset _)
  · rw [hu, agentRun_of_empty (hardReset_requests u)]
    exact .inr ⟨u, rfl, hp⟩

/-! ### The header event -/

@[simp] theorem trunkView_noticeVerdict (k : Slot) (tag : Tag) (n : BitVec 16) (before : Option (BitVec 16))
    (v : Verdict) (s : State) : trunkView (noticeVerdict k tag n before v s) = trunkView s := by
  cases v with
  | gap d => exact trunkView_raise ..
  | restart => exact trunkView_raise ..
  | _ => rfl

/-- At the header event the blocks of no dispatch class touch the trunk. -/
@[simp] theorem trunkView_headerDispatch (data : List Byte) (w : HeaderWork) :
    trunkView (headerDispatch data w).state = trunkView w.state := by
  unfold headerDispatch
  split
  case h_2 =>
    unfold headerStream
    split
    · simp [headerClassified]
    · simp only [headerUnknown]
      split <;> simp
  all_goals simp

/-- The header event happens within a reception, and may start a capture. -/
theorem headerEvent_trunkKept (bytes : List Byte) {s : State} (hr : s.reception.isSome = true) :
    TrunkKept s (headerEvent bytes s) := by
  unfold headerEvent
  split
  · exact .refl s
  · rename_i h _
    have hw := TrunkKept.of_view (trunkView_headerDispatch bytes ⟨s, openContext s h⟩)
    have ht : TrunkKept s
        { (headerDispatch bytes ⟨s, openContext s h⟩).state with
          reception := some ⟨bytes, some (headerDispatch bytes ⟨s, openContext s h⟩).context⟩ } :=
      ⟨hw.pending, hw.gateNumber, hw.link, hw.idle, fun _ => hr, hw.trap⟩
    exact ht.trans (offerTrap_trunkKept ..)

theorem receiveByte_trunkKept (b : Byte) (r : Reception) {s : State} (hr : s.reception.isSome = true) :
    TrunkKept s (receiveByte b r s) := by
  have hs (x : Reception) : TrunkKept s { s with reception := some x } := ⟨rfl, rfl, rfl, rfl, fun _ => hr, id⟩
  simp only [receiveByte]
  split
  · exact ((hs _).then_view (trunkView_storeByte ..)).trans (copyByte_trunkKept b _)
  · split
    · exact (hs _).trans (headerEvent_trunkKept _ rfl)
    · exact hs _

/-! ### The end event -/

/-- A reception ended early is never GOOD (R8). -/
theorem endOutcome_early_ne_good (c : Context) (bytes : List Byte) : endOutcome c bytes true ≠ .good := by
  simp only [endOutcome, if_true]
  split_ifs <;> simp

/-- Only a GOOD frame hands a request to the Agent (R16). -/
theorem settleRequest_of_not_good (c : Context) {outcome : EndOutcome} (h : outcome ≠ .good) (bytes : List Byte)
    (s : State) : settleRequest c outcome bytes s = s := by
  unfold settleRequest
  split
  · exact absurd rfl h
  · exact absurd rfl h
  · rfl

theorem intakePayload_keptOrReset (allGates : Bool) (payload : List Byte) (s : State) :
    KeptOrReset s (intakePayload allGates payload s) := by
  unfold intakePayload
  split
  · exact .trans_kept (.of_view (trunkView_intake ..)) (agentRun_keptOrReset _)
  · exact .inl (.of_view (trunkView_count ..))

theorem settleRequest_keptOrReset (c : Context) (outcome : EndOutcome) (bytes : List Byte) (s : State) :
    KeptOrReset s (settleRequest c outcome bytes s) := by
  unfold settleRequest
  split
  · exact intakePayload_keptOrReset ..
  · exact intakePayload_keptOrReset ..
  · exact .inl (.refl s)

@[simp] theorem trunkView_countEnd (c : Context) (outcome : EndOutcome) (s : State) :
    trunkView (countEnd c outcome s) = trunkView s := by
  unfold countEnd
  split
  · simp
  · split <;> simp

@[simp] theorem trunkView_settleReservation (c : Context) (outcome : EndOutcome) (s : State) :
    trunkView (settleReservation c outcome s) = trunkView s := by
  unfold settleReservation
  split <;> simp

@[simp] theorem trunkView_settleClock (c : Context) (outcome : EndOutcome) (bytes : List Byte) (s : State) :
    trunkView (settleClock c outcome bytes s) = trunkView s := by
  unfold settleClock
  split
  · split <;> simp
  · rfl

theorem closeReception_trunkKept (c : Context) (s : State) : TrunkKept s (closeReception c s) := by
  have hs : TrunkKept s { s with reception := none } := ⟨rfl, rfl, rfl, rfl, by simp, id⟩
  simp only [closeReception]
  split
  · exact hs.then_view (by simp)
  · exact hs

/-- The end event of a frame up to the hand-off to the Agent: counters, reservation, clock, trap, close. -/
def frameClosed (c : Context) (outcome : EndOutcome) (bytes : List Byte) (s : State) : State :=
  closeReception c
    (endCapture c outcome bytes.length
      (settleClock c outcome bytes (settleReservation c outcome (countEnd c outcome s))))

theorem endFrame_eq (c : Context) (bytes : List Byte) (early : Bool) (s : State) :
    endFrame c bytes early s =
      settleRequest c (endOutcome c bytes early) bytes (frameClosed c (endOutcome c bytes early) bytes s) := rfl

theorem frameClosed_trunkKept (c : Context) (outcome : EndOutcome) (bytes : List Byte) (s : State) :
    TrunkKept s (frameClosed c outcome bytes s) :=
  ((TrunkKept.of_view (by simp)).trans (endCapture_trunkKept c outcome bytes.length _)).trans
    (closeReception_trunkKept c _)

theorem endEvent_keptOrReset (early : Bool) (s : State) : KeptOrReset s (endEvent early s) := by
  unfold endEvent
  split
  · exact .inl (.refl s)
  · split
    · rw [endFrame_eq]
      exact .trans_kept (frameClosed_trunkKept ..) (settleRequest_keptOrReset ..)
    · exact .inl ⟨rfl, rfl, rfl, rfl, by simp, id⟩

/-- An early end gives the Agent nothing, so no hard reset can follow it. -/
theorem endEvent_early_trunkKept (s : State) : TrunkKept s (endEvent true s) := by
  unfold endEvent
  split
  · exact .refl s
  · split
    · rw [endFrame_eq, settleRequest_of_not_good _ (endOutcome_early_ne_good _ _)]
      exact frameClosed_trunkKept ..
    · exact ⟨rfl, rfl, rfl, rfl, by simp, id⟩

end Sys2Proof.Machine

/-! SUPPORT. What every command keeps, and the two statements that follow from it: the link's law and the trap's under
every step, and an answer of every command that keeps the queue of commands. -/

namespace Sys2Proof.Machine

open Sys2Proof

/-! ### What a command keeps -/

/-- What every command keeps: the queue of commands, the gate number up to a hard reset that it ends with, the link's
law and the trap's. -/
structure CommandKeeps (s t : State) : Prop where
  pending : t.pending = s.pending
  gateNumber : t.gateNumber = s.gateNumber ∨ ∃ u, t = hardReset u
  link : LinkLaw s → LinkLaw t
  trap : TrapLaw s.trap → TrapLaw t.trap

theorem TrunkKept.linkLaw {s t : State} (h : TrunkKept s t) (hs : LinkLaw s) : LinkLaw t := by
  obtain ⟨htimer, hreception⟩ := hs
  refine ⟨?_, fun hr => ?_⟩
  · rw [h.idle, h.link]
    exact htimer
  · rw [h.link]
    exact hreception (h.reception hr)

theorem CommandKeeps.of_kept {s t : State} (h : TrunkKept s t) : CommandKeeps s t :=
  ⟨h.pending, .inl h.gateNumber, h.linkLaw, h.trap⟩

theorem CommandKeeps.refl (s : State) : CommandKeeps s s := .of_kept (.refl s)

theorem CommandKeeps.of_view {s t : State} (h : trunkView t = trunkView s) : CommandKeeps s t := .of_kept (.of_view h)

theorem CommandKeeps.of_hardReset {s u : State} (h : u.pending = s.pending) : CommandKeeps s (hardReset u) :=
  ⟨by simp [h], .inr ⟨u, rfl⟩, fun _ => linkLaw_hardReset u, fun _ => trapLaw_hardReset u⟩

theorem CommandKeeps.of_keptOrReset {s t : State} (h : KeptOrReset s t) : CommandKeeps s t := by
  obtain h | ⟨u, rfl, hu⟩ := h
  · exact .of_kept h
  · exact .of_hardReset hu

/-- Work after which the view stays, begun with work that leaves it. -/
theorem CommandKeeps.after_view {s t u : State} (hs : trunkView t = trunkView s) (h : CommandKeeps t u) :
    CommandKeeps s u := by
  have hk := TrunkKept.of_view hs
  exact ⟨h.pending.trans hk.pending, hk.gateNumber ▸ h.gateNumber, fun hl => h.link (hk.linkLaw hl),
    fun ht => h.trap (hk.trap ht)⟩

/-- The link's part of the view moves by its law, everything else stays. -/
theorem CommandKeeps.of_linkLaw {s t : State} (hpending : t.pending = s.pending) (hgate : t.gateNumber = s.gateNumber)
    (hlink : LinkLaw s → LinkLaw t) (htrap : TrapLaw s.trap → TrapLaw t.trap) : CommandKeeps s t :=
  ⟨hpending, .inl hgate, hlink, htrap⟩

/-- The stall timers are judged at the end of a command. -/
theorem CommandKeeps.settle {s t : State} (h : CommandKeeps s t) : CommandKeeps s (settle t) := by
  have hv := TrunkKept.of_view (trunkView_settle t)
  refine ⟨hv.pending.trans h.pending, ?_, fun hl => hv.linkLaw (h.link hl), fun ht => hv.trap (h.trap ht)⟩
  obtain hg | ⟨u, rfl⟩ := h.gateNumber
  · exact .inl (hv.gateNumber.trans hg)
  · exact .inr ⟨u, settle_hardReset u⟩

/-- A command out of reset does its work; in reset it has no effect. -/
theorem act_keeps {work : State → State} {s : State} (h : CommandKeeps s (work s)) :
    ∃ t, act work s = .next t ∧ CommandKeeps s t := by
  unfold act
  split
  · exact ⟨_, rfl, h.settle⟩
  · exact ⟨_, rfl, .refl s⟩

/-- The same for a command that first changes the level of a pin. -/
theorem act_keeps_of_pin {work : State → State} {s t : State} (ht : trunkView t = trunkView s)
    (h : CommandKeeps t (work t)) : ∃ u, act work t = .next u ∧ CommandKeeps s u := by
  obtain ⟨u, hu, hk⟩ := act_keeps h
  exact ⟨u, hu, hk.after_view ht⟩

/-! ### The link -/

/-- A link state with its idle timer running exactly in ACQUIRING, and no reception begun outside UP. -/
theorem linkLaw_set {s : State} {x : LinkState} {timer : Option Nat} (htimer : timer.isSome = true ↔ x = .acquiring)
    (hreception : s.reception.isSome = true → x = .up) : LinkLaw { s with link := x, idleTimer := timer } :=
  ⟨htimer, hreception⟩

/-- After an early end no reception is in progress. -/
theorem endEvent_reception (s : State) : (endEvent true s).reception = none := by
  unfold endEvent
  split
  · assumption
  · split
    · rw [endFrame_eq, settleRequest_of_not_good _ (endOutcome_early_ne_good _ _), frameClosed, closeReception]
      split <;> simp
    · rfl

theorem restartIdle_keeps {s : State} (h : s.link = .acquiring) : CommandKeeps s (restartIdle s) :=
  .of_linkLaw rfl rfl (fun ⟨_, hr⟩ => ⟨by simp [restartIdle, h], hr⟩) id

theorem linkDown_keeps (cause : LinkCause) (s : State) : CommandKeeps s (linkDown cause s) := by
  have hk := endEvent_early_trunkKept s
  have hdown : CommandKeeps s { endEvent true s with link := .down, idleTimer := none } :=
    .of_linkLaw hk.pending hk.gateNumber (fun _ => linkLaw_set (by simp) (by simp [endEvent_reception])) hk.trap
  have hview : trunkView (linkDown cause s) = trunkView { endEvent true s with link := .down, idleTimer := none } := by
    rw [linkDown, trunkView_raise]
    split
    · rw [trunkView_count]
    · rfl
  have hv := TrunkKept.of_view hview
  exact ⟨hv.pending.trans hdown.pending, .inl (hv.gateNumber.trans hk.gateNumber),
    fun hl => hv.linkLaw (hdown.link hl), fun ht => hv.trap (hdown.trap ht)⟩

theorem signalSeen_keeps (s : State) : CommandKeeps s (signalSeen s) := by
  unfold signalSeen
  split
  · rename_i hdown
    refine .of_linkLaw rfl rfl (fun ⟨_, hr⟩ => linkLaw_set (by simp) fun h => ?_) id
    cases hdown.symm.trans (hr h)
  · exact .refl s
  · exact .refl s

theorem signalLost_keeps (s : State) : CommandKeeps s (signalLost s) := by
  unfold signalLost
  split
  · exact .refl s
  · exact linkDown_keeps .signal s
  · exact linkDown_keeps .signal s

theorem alignmentLost_keeps (s : State) : CommandKeeps s (alignmentLost s) := by
  unfold alignmentLost
  split
  · exact .refl s
  · exact restartIdle_keeps ‹_›
  · exact linkDown_keeps .alignment s

theorem idleTimerRunsOut_keeps (s : State) : CommandKeeps s (idleTimerRunsOut s) := by
  unfold idleTimerRunsOut
  split
  · exact .of_linkLaw rfl rfl (fun _ => linkLaw_set (by simp) fun _ => rfl) id
  · exact .refl s

/-! ### Receptions -/

theorem invalidGroup_keeps (s : State) : CommandKeeps s (invalidGroup s) := by
  unfold invalidGroup
  split
  · exact .refl s
  · exact restartIdle_keeps ‹_›
  · exact .of_kept (endEvent_early_trunkKept s)

/-- A reception begins only in UP. -/
theorem startGroup_keeps (s : State) : CommandKeeps s (startGroup s) := by
  unfold startGroup
  split
  · exact .refl s
  · exact restartIdle_keeps ‹_›
  · rename_i hup
    have hk := endEvent_early_trunkKept s
    exact .of_linkLaw hk.pending hk.gateNumber (fun hl => ⟨(hk.linkLaw hl).1, fun _ => hk.link.trans hup⟩) hk.trap

theorem byteGroup_keeps (b : Byte) (s : State) : CommandKeeps s (byteGroup b s) := by
  unfold byteGroup
  split
  · exact .refl s
  · exact restartIdle_keeps ‹_›
  · split
    · exact .refl s
    · rename_i r hr
      exact .of_kept (receiveByte_trunkKept b r (by simp [hr]))

theorem endGroup_keeps (s : State) : CommandKeeps s (endGroup s) := by
  unfold endGroup
  split
  · exact .refl s
  · exact restartIdle_keeps ‹_›
  · exact .of_keptOrReset (endEvent_keptOrReset false s)

/-! ### Lanes, timers and the Agent -/

theorem stallTimerRunsOut_keeps (l : Lane) (s : State) : CommandKeeps s (stallTimerRunsOut l s) := by
  unfold stallTimerRunsOut
  split
  · exact .of_keptOrReset (.trans_kept (.of_view (by simp)) (agentRun_restartCheck_keptOrReset _))
  · exact .refl s

theorem sendRunsOut_keeps (l : Lane) (s : State) : CommandKeeps s (sendRunsOut l s) := by
  unfold sendRunsOut
  split
  · exact .refl s
  · exact .of_keptOrReset (.trans_kept (.of_view (by simp)) (agentRun_restartCheck_keptOrReset _))

theorem workEnds_keeps (s : State) : CommandKeeps s (workEnds s) := by
  unfold workEnds
  split
  · exact .of_keptOrReset (.trans_kept (.of_view (trunkView_agent ..)) (agentRun_keptOrReset _))
  · exact .refl s

@[simp] theorem trunkView_headComes (l : Lane) (s : State) : trunkView (headComes l s) = trunkView s := by
  unfold headComes
  split
  · rfl
  · split <;> simp [elapseUntil]

@[simp] theorem trunkView_slewIntervalRunsOut (s : State) : trunkView (slewIntervalRunsOut s) = trunkView s := by
  unfold slewIntervalRunsOut
  split <;> simp

@[simp] theorem trunkView_holdoverTimerRunsOut (s : State) : trunkView (holdoverTimerRunsOut s) = trunkView s := by
  unfold holdoverTimerRunsOut
  split <;> simp

@[simp] theorem trunkView_scheduledTimeComes (s : State) : trunkView (scheduledTimeComes s) = trunkView s := by
  unfold scheduledTimeComes
  split <;> simp [elapseUntil]

@[simp] theorem trunkView_stagingTimerRunsOut (s : State) : trunkView (stagingTimerRunsOut s) = trunkView s := by
  unfold stagingTimerRunsOut
  split <;> simp

@[simp] theorem trunkView_retryTimerRunsOut (sequence : BitVec 16) (s : State) :
    trunkView (retryTimerRunsOut sequence s) = trunkView s := by
  unfold retryTimerRunsOut
  split
  · exact (trunkView_notices ..).trans (trunkView_elapse ..)
  · rfl

theorem enterReset_keeps (s : State) : CommandKeeps s (enterReset s) :=
  .of_linkLaw rfl rfl (fun _ => by simp [LinkLaw, enterReset]) id

/-! ### Every command -/

/-- Every command answers a next state and keeps what commands keep. -/
theorem exec_keeps (c : Instr) (s : State) : ∃ t, exec c s = .next t ∧ CommandKeeps s t := by
  cases hc : c.request with
  | some p =>
    obtain ⟨m, r⟩ := p
    rw [exec_of_request hc]
    exact act_keeps (.of_keptOrReset (.trans_kept (.of_view (trunkView_intake ..)) (agentRun_keptOrReset _)))
  | none =>
    cases c with
    | powerOn straps => exact ⟨_, rfl, .of_hardReset rfl⟩
    | resetNAsserted => exact ⟨_, rfl, enterReset_keeps s⟩
    | resetNReleased straps =>
      simp only [exec, execResetNReleased]
      split
      · exact ⟨_, rfl, .refl s⟩
      · exact ⟨_, rfl, .of_hardReset rfl⟩
    | signalPresent => exact act_keeps_of_pin (trunkView_pins ..) (signalSeen_keeps _)
    | lossOfSignal => exact act_keeps_of_pin (trunkView_pins ..) (signalLost_keeps _)
    | lossOfAlignment => exact act_keeps (alignmentLost_keeps s)
    | invalidCodeGroup => exact act_keeps (invalidGroup_keeps s)
    | idleTimerExpiry => exact act_keeps (idleTimerRunsOut_keeps s)
    | startDelimiter => exact act_keeps (startGroup_keeps s)
    | dataByte b => exact act_keeps (byteGroup_keeps b s)
    | endDelimiter => exact act_keeps (endGroup_keeps s)
    | waitAsserted l => exact act_keeps_of_pin (trunkView_setWait ..) (.of_view (trunkView_waitAsserted ..))
    | waitReleased l => exact act_keeps_of_pin (trunkView_setWait ..) (.of_view (trunkView_waitReleased ..))
    | stallTimerExpiry l => exact act_keeps (stallTimerRunsOut_keeps l s)
    | laneSendStart l =>
      exact act_keeps (work := fun s => agentRun (sendStart l s))
        (.of_keptOrReset (.trans_kept (.of_view (trunkView_sendStart ..)) (agentRun_keptOrReset _)))
    | laneSendEnd l => exact act_keeps (sendRunsOut_keeps l s)
    | slewIntervalExpiry => exact act_keeps (.of_view (trunkView_slewIntervalRunsOut s))
    | holdoverTimerExpiry => exact act_keeps (.of_view (trunkView_holdoverTimerRunsOut s))
    | scheduledCommit => exact act_keeps (.of_view (trunkView_scheduledTimeComes s))
    | stagingTimerExpiry => exact act_keeps (.of_view (trunkView_stagingTimerRunsOut s))
    | retryTimerExpiry sequence => exact act_keeps (.of_view (trunkView_retryTimerRunsOut sequence s))
    | workIntervalEnd => exact act_keeps (workEnds_keeps s)
    | badRequest m code operands =>
      exact act_keeps (.of_keptOrReset (.trans_kept (.of_view (trunkView_intake ..)) (agentRun_keptOrReset _)))
    | releaseTimeComing l => exact act_keeps (.of_view (trunkView_headComes ..))
    | _ => simp [Instr.request] at hc

/-! ### Every step -/

/-- A step is one command, or a period that passes, or nothing: a property that these keep is kept by every step. -/
theorem step_keeps {P : State → Prop} (hexec : ∀ c s t, exec c s = .next t → P s → P t)
    (hpending : ∀ s queue, P s → P { s with pending := queue }) (hperiod : ∀ s, P s → P (settle (elapse 1 s)))
    {s t : State} (h : step s = .next t) (hs : P s) : P t := by
  unfold step at h
  split at h
  · unfold idle at h
    split at h
    · split at h
      · exact hexec _ s t h hs
      · cases h
        exact hperiod s hs
    · cases h
      exact hs
  · exact hexec _ _ t h (hpending s _ hs)

/-- What an answered command keeps. -/
theorem keeps_of_exec {c : Instr} {s t : State} (h : exec c s = .next t) : CommandKeeps s t := by
  obtain ⟨u, hu, hk⟩ := exec_keeps c s
  rw [h] at hu
  cases hu
  exact hk

theorem elapse_keeps (n : Nat) (s : State) : CommandKeeps s (settle (elapse n s)) :=
  (CommandKeeps.of_view (trunkView_elapse n s)).settle

/-! ### The statements -/

/-- Settles O60, by what every command and every period keeps. -/
theorem linkAndTrapLawsAreKept : Obligations.LinkAndTrapLawsAreKept :=
  ⟨fun _ _ hs h => step_keeps (P := LinkLaw) (fun _ _ _ he => (keeps_of_exec he).link) (fun _ _ hl => hl)
      (fun s => (elapse_keeps 1 s).link) h hs,
    fun _ _ hs h => step_keeps (P := fun s => TrapLaw s.trap) (fun _ _ _ he => (keeps_of_exec he).trap)
      (fun _ _ ht => ht) (fun s => (elapse_keeps 1 s).trap) h hs⟩

/-- Settles O2, by what every command keeps. -/
theorem everyCommandAnswersAndKeepsQueueAndGateNumber : Obligations.EveryCommandAnswersAndKeepsQueueAndGateNumber := by
  intro c s
  obtain ⟨t, ht, hk⟩ := exec_keeps c s
  exact ⟨t, ht, hk.pending, hk.gateNumber⟩

end Sys2Proof.Machine

/-! The statements about the hard reset, the reset pin and the link (R1, R3 to R6). -/

namespace Sys2Proof.Machine

open Sys2Proof

/-! ### A command in reset and out of it -/

theorem act_of_reset {work : State → State} {s : State} (h : s.pins.resetN = false) : act work s = .next s := by
  simp [act, h]

theorem act_of_running {work : State → State} {s u : State} (h : s.pins.resetN = true) (hu : work s = u) :
    act work s = .next (settle u) := by
  simp [act, h, hu]

/-! ### The hard reset -/

/-- A hard reset written out: where a signal is seen the link is ACQUIRING, where a WAIT line is high its lane is
PAUSED, and everything else is as `State.reset` has it. -/
theorem hardReset_eq (s : State) :
    hardReset s =
      { State.reset with
        pins := s.pins
        gateNumber := s.pins.straps
        link := if s.pins.signal then .acquiring else .down
        idleTimer := if s.pins.signal then some 0 else none
        laneA := { LaneUnit.reset with state := if s.pins.waitA then .paused else .idle }
        laneB := { LaneUnit.reset with state := if s.pins.waitB then .paused else .idle }
        freeCount := s.freeCount
        pending := s.pending } := by
  obtain ⟨⟨_, _, waitA, waitB, signal⟩, _⟩ := s
  cases signal <;> cases waitA <;> cases waitB <;> rfl

/-- Settles O4: POWER_ON and the release of a low RESET_N take the hard reset, whose state is written out. -/
theorem hardResetGivesEveryBlockItsResetValues : Obligations.HardResetGivesEveryBlockItsResetValues := by
  intro straps s
  have h := hardReset_eq { s with pins := { s.pins with straps := straps, resetN := true } }
  refine ⟨congrArg Host.Outcome.next h, fun hlow => ?_⟩
  simp only [exec, execResetNReleased, hlow]
  exact congrArg Host.Outcome.next h

/-- Settles O5: the work of every other command waits for RESET_N, so that only the levels of pins move. -/
theorem resetPinHoldsTheGate : Obligations.ResetPinHoldsTheGate := by
  refine ⟨fun _ => rfl, fun s straps hhigh => by simp [exec, execResetNReleased, hhigh], ?_⟩
  intro c s hlow hpower hrelease hassert
  cases hc : c.request with
  | some p =>
    obtain ⟨m, r⟩ := p
    rw [exec_of_request hc, requestRow, act_of_reset hlow]
    cases c with
    | waitAsserted l => cases hc
    | waitReleased l => cases hc
    | signalPresent => cases hc
    | lossOfSignal => cases hc
    | _ => rfl
  | none =>
    cases c with
    | powerOn x => exact absurd rfl (hpower x)
    | resetNReleased x => exact absurd rfl (hrelease x)
    | resetNAsserted => exact absurd rfl hassert
    | waitAsserted l => cases l <;> exact act_of_reset hlow
    | waitReleased l => cases l <;> exact act_of_reset hlow
    | laneSendStart l => exact act_of_reset (work := fun s => agentRun (sendStart l s)) hlow
    | _ => exact act_of_reset hlow

/-! ### The link -/

/-- In ACQUIRING the five events restart the idle timer and do nothing else, in DOWN nothing. -/
theorem codeGroup_work {b : Byte} {c : Instr}
    (hc : c ∈ [Instr.lossOfAlignment, .invalidCodeGroup, .startDelimiter, .dataByte b, .endDelimiter]) :
    ∃ work, (∀ s, exec c s = act work s) ∧ (∀ s, s.link = .acquiring → work s = restartIdle s) ∧
      ∀ s, s.link = .down → work s = s := by
  simp only [List.mem_cons, List.not_mem_nil, or_false] at hc
  obtain rfl | rfl | rfl | rfl | rfl := hc
  · exact ⟨alignmentLost, fun _ => rfl, fun _ h => by simp only [alignmentLost, h],
      fun _ h => by simp only [alignmentLost, h]⟩
  · exact ⟨invalidGroup, fun _ => rfl, fun _ h => by simp only [invalidGroup, h],
      fun _ h => by simp only [invalidGroup, h]⟩
  · exact ⟨startGroup, fun _ => rfl, fun _ h => by simp only [startGroup, h],
      fun _ h => by simp only [startGroup, h]⟩
  · exact ⟨byteGroup b, fun _ => rfl, fun _ h => by simp only [byteGroup, h],
      fun _ h => by simp only [byteGroup, h]⟩
  · exact ⟨endGroup, fun _ => rfl, fun _ h => by simp only [endGroup, h],
      fun _ h => by simp only [endGroup, h]⟩

/-- Settles O6, by the state of the link in each command of the trunk decoder. -/
theorem linkComesUpThroughAcquiring : Obligations.LinkComesUpThroughAcquiring := by
  refine ⟨fun s hhigh => ?_, fun s b c hhigh hc => ?_, fun s e hhigh hlink htimer => ?_⟩
  · refine act_of_running (s := setSignal true s) hhigh ?_
    cases hlink : s.link <;> simp [signalSeen, setSignal, hlink]
  · obtain ⟨work, hwork, hacquiring, hdown⟩ := codeGroup_work hc
    rw [hwork]
    exact ⟨fun hlink => act_of_running hhigh (hacquiring s hlink), fun hlink => act_of_running hhigh (hdown s hlink)⟩
  · refine act_of_running hhigh ?_
    simp only [idleTimerRunsOut, hlink, htimer]
    rfl

/-- A link that leaves ACQUIRING or UP: its code is 1 or 2, and only a move from UP is counted. -/
theorem linkDown_eq (cause : LinkCause) {s : State} (h : s.link ≠ .down) :
    linkDown cause s =
      let t := { endEvent true s with link := .down, idleTimer := none }
      raise .linkDown none 0xFFFF (detail8 (linkCauseByte cause) (if s.link = .up then 2 else 1) 0 0)
        (if s.link = .up then { t with counters := { t.counters with linkLosses := t.counters.linkLosses + 1 } }
        else t) := by
  cases hlink : s.link with
  | down => exact absurd hlink h
  | acquiring =>
    simp only [linkDown, hlink, reduceCtorEq, if_false]
    rfl
  | up =>
    simp only [linkDown, hlink, if_true]
    rfl

/-- Settles O7, by the state the link leaves. -/
theorem linkLossEndsTheReceptionAndIsReported : Obligations.LinkLossEndsTheReceptionAndIsReported := by
  refine ⟨fun s hhigh => ?_, fun s hhigh hlink => ?_⟩
  · refine act_of_running (s := setSignal false s) hhigh ?_
    by_cases hdown : s.link = .down
    · simp only [signalLost, setSignal, hdown, if_true]
    · have hlost : signalLost (setSignal false s) = linkDown .signal (setSignal false s) := by
        cases hlink : s.link with
        | down => exact absurd hlink hdown
        | acquiring => simp only [signalLost, setSignal, hlink]
        | up => simp only [signalLost, setSignal, hlink]
      rw [hlost, linkDown_eq .signal (s := setSignal false s) hdown, if_neg hdown]
      rfl
  · refine act_of_running hhigh ?_
    have hlost : alignmentLost s = linkDown .alignment s := by simp only [alignmentLost, hlink]
    simp only [hlost, linkDown_eq .alignment (hlink.trans_ne (by decide)), hlink, if_true]
    rfl

end Sys2Proof.Machine

/-! The statements about receptions and the header event (R7 to R17, R30 to R33, R86, R170). -/

namespace Sys2Proof.Machine

open Sys2Proof

/-! ### Bytes of a reception -/

/-- A byte goes to the reservation's descriptor while it lies within the declared length. -/
theorem storeByte_eq (c : Context) (received : Nat) (b : Byte) (s : State) :
    storeByte c received b s =
      { s with
        pool :=
          match c.reservation with
          | none => s.pool
          | some d =>
            match s.pool.descs.get d with
            | none => s.pool
            | some r =>
              if received ≤ c.declared then
                { s.pool with descs := s.pool.descs.set d.val (some { r with data := r.data ++ [b] }) d.isLt }
              else s.pool } := by
  have hdesc (d : DescNo) : s.desc d = s.pool.descs.get d := rfl
  unfold storeByte
  cases hreservation : c.reservation with
  | none => rfl
  | some d =>
    simp only [hdesc]
    cases hd : s.pool.descs.get d with
    | none => rfl
    | some r =>
      simp only
      split <;> rfl

/-- A byte goes to the Trap Buffer of a FILLING trap with room. -/
theorem copyByte_eq (b : Byte) (s : State) :
    copyByte b s =
      { s with
        trap :=
          if s.trap.state = .filling ∧ s.trap.buffer.length < 1088 then { s.trap with buffer := s.trap.buffer ++ [b] }
          else s.trap } := by
  unfold copyByte trapCapacity
  split <;> rfl

/-- A byte after the header event changes the pools and the trap alone. -/
theorem copyByte_storeByte (c : Context) (received : Nat) (b : Byte) (s : State) :
    copyByte b (storeByte c received b s) =
      { s with
        pool :=
          match c.reservation with
          | none => s.pool
          | some d =>
            match s.pool.descs.get d with
            | none => s.pool
            | some r =>
              if received ≤ c.declared then
                { s.pool with descs := s.pool.descs.set d.val (some { r with data := r.data ++ [b] }) d.isLt }
              else s.pool
        trap :=
          if s.trap.state = .filling ∧ s.trap.buffer.length < 1088 then { s.trap with buffer := s.trap.buffer ++ [b] }
          else s.trap } := by
  rw [copyByte_eq, storeByte_eq]

/-- Outside a reception there is no end event. -/
theorem endEvent_of_none (early : Bool) {s : State} (h : s.reception = none) : endEvent early s = s := by
  simp only [endEvent, h]

/-- A reception without a header event is counted in truncated (R12). -/
theorem endEvent_of_short (early : Bool) {s : State} {bytes : List Byte} (h : s.reception = some ⟨bytes, none⟩) :
    endEvent early s =
      { s with
        reception := none
        counters := { s.counters with truncated := s.counters.truncated + 1 } } := by
  simp only [endEvent, h]
  rfl

/-- Settles O8: delimiters and invalid code groups by the end event, data bytes by how far the frame has come. -/
theorem receptionsRunFromDelimiterToEnd : Obligations.ReceptionsRunFromDelimiterToEnd := by
  refine ⟨fun s hhigh hup => ⟨?_, ?_, ?_, ?_, ?_, ?_⟩, fun s bytes b hhigh hup => ⟨?_, ?_, ?_⟩⟩
  · exact act_of_running hhigh (by simp only [startGroup, hup]; rfl)
  · exact act_of_running hhigh (by simp only [invalidGroup, hup])
  · exact act_of_running hhigh (by simp only [endGroup, hup])
  · exact fun h early => endEvent_of_none early h
  · exact fun h b => act_of_running hhigh (by simp only [byteGroup, hup, h])
  · exact fun bytes early h => endEvent_of_short early h
  · intro h hlength
    refine act_of_running hhigh ?_
    have hnot : (bytes ++ [b]).length ≠ headerBytes := by simpa [headerBytes] using hlength
    simp only [byteGroup, hup, h, receiveByte, if_neg hnot]
  · intro h hlength
    refine act_of_running hhigh ?_
    have hheader : (bytes ++ [b]).length = headerBytes := by simp [headerBytes, hlength]
    simp only [byteGroup, hup, h, receiveByte, if_pos hheader]
  · intro c h
    refine act_of_running hhigh ?_
    have hlength : (bytes ++ [b]).length = bytes.length + 1 := List.length_append
    simp only [byteGroup, hup, h, receiveByte, hlength]
    refine (copyByte_storeByte c (bytes.length + 1) b _).trans ?_
    rfl

/-! ### The header event -/

/-- The fields of the context that no block changes at the header event. -/
def fixedFields (c : Context) :
    Time × Byte × Byte × Tag × BitVec 16 × BitVec 16 × Option Time × Nat × DispatchClass × Bool × Bool :=
  (c.arrival, c.kind, c.flags, c.tag, c.sequence, c.payloadLength, c.origin, c.declared, c.cls, c.flushed, c.timeSet)

/-- Transit admission notes its outcome and reservation alone. -/
theorem fixedFields_admitTransit (data : List Byte) (w : HeaderWork) :
    fixedFields (admitTransit data w).context = fixedFields w.context := by
  simp only [admitTransit]
  split <;> rfl

/-- Admission notes outcome, stamp flags and reservation alone. -/
theorem fixedFields_admitStream (cl : Classified) (data : List Byte) (w : HeaderWork) :
    fixedFields (admitStream cl data w).context = fixedFields w.context := by
  have hpool (t : Time) (lanes : LaneSet) (w : HeaderWork) :
      fixedFields (admitPool cl t lanes data w).context = fixedFields w.context := by
    simp only [admitPool]
    split <;> rfl
  have hquota (t : Time) (lanes : LaneSet) (w : HeaderWork) :
      fixedFields (admitQuota cl t lanes data w).context = fixedFields w.context := by
    simp only [admitQuota]
    split
    · rfl
    · exact hpool t lanes w
  have hlanes (t : Time) (w : HeaderWork) :
      fixedFields (admitLanes cl t data w).context = fixedFields w.context := by
    simp only [admitLanes]
    split
    · rfl
    · exact hquota ..
  unfold admitStream
  split_ifs
  · rfl
  · rfl
  · simp only [admitRelease]
    split
    · rfl
    · rfl
    · exact hlanes ..

/-- At the header event the blocks of no dispatch class change what the context has fixed. -/
theorem fixedFields_headerDispatch (data : List Byte) (w : HeaderWork) :
    fixedFields (headerDispatch data w).context = fixedFields w.context := by
  have hstream : fixedFields (headerStream data w).context = fixedFields w.context := by
    unfold headerStream
    split
    · exact fixedFields_admitStream ..
    · simp only [headerUnknown]
      split
      · exact fixedFields_admitTransit ..
      · rfl
  unfold headerDispatch
  split
  · rfl
  · exact hstream
  · exact fixedFields_admitTransit ..
  · exact fixedFields_admitTransit ..
  · exact fixedFields_admitTransit ..
  · rfl
  · rfl

/-- The offer to the trap leaves the reception. -/
theorem offerTrap_reception (c : Context) (bytes : List Byte) (s : State) :
    (offerTrap c bytes s).reception = s.reception := by
  unfold offerTrap
  split <;> rfl

/-- The gate's own source tag as a sum (R2). -/
theorem sourceTag_eq (gateNumber : Byte) : sourceTag gateNumber = BitVec.ofNat 16 (0xF000 + gateNumber.toNat) := by
  apply BitVec.eq_of_toNat_eq
  simp [sourceTag, BitVec.toNat_add]

/-- The checks of R10 on numbers. -/
theorem malformedHeader_iff (h : Header) :
    malformedHeader h = true ↔
      h.kind.toNat < 1 ∨ 5 < h.kind.toNat ∨ 1024 < h.payloadLength.toNat ∨ 4 < (h.flags.extractLsb' 0 3).toNat ∨
        (h.kind.toNat = 1 ∧ 0xF000 ≤ h.tag.toNat) := by
  have hk : h.kind = kindData ↔ h.kind.toNat = 1 := by rw [← BitVec.toNat_inj]; rfl
  simp only [malformedHeader, Bool.or_eq_true, Bool.and_eq_true, decide_eq_true_eq, hk, or_assoc]
  rfl

/-- The table of R13 on numbers. -/
theorem dispatch_eq (s : State) (h : Header) :
    dispatch s h =
      let k := h.kind.toNat
      let ownTag : Tag := BitVec.ofNat 16 (0xF000 + s.gateNumber.toNat)
      if k < 1 ∨ 5 < k ∨ 1024 < h.payloadLength.toNat ∨ 4 < (h.flags.extractLsb' 0 3).toNat ∨
          (k = 1 ∧ 0xF000 ≤ h.tag.toNat) then
        .malformed
      else if k = 1 then .streamCandidate
      else if k = 2 then
        if h.tag = s.params.referenceTag ∧ s.params.referenceTag ≠ 0xFFFF ∧ 7 ≤ h.payloadLength.toNat then
          .timeReference
        else .transit
      else if k = 3 then
        if s.gateNumber ≠ 255 ∧ h.tag = ownTag then .localRequest
        else if h.tag = 0xF0FF then .allGatesRequest
        else .transit
      else if h.tag = ownTag then .ownReturned
      else .transit := by
  have hk (n : Byte) : h.kind = n ↔ h.kind.toNat = n.toNat := BitVec.toNat_inj.symm
  have hreference :
      isReference s.params h = true ↔
        h.tag = s.params.referenceTag ∧ s.params.referenceTag ≠ 0xFFFF ∧ 7 ≤ h.payloadLength.toNat := by
    simp only [isReference, Bool.and_eq_true, decide_eq_true_eq, and_assoc]
    rfl
  have haddress :
      isGateAddress s.gateNumber h.tag = true ↔
        s.gateNumber ≠ 255 ∧ h.tag = BitVec.ofNat 16 (0xF000 + s.gateNumber.toNat) := by
    simp only [isGateAddress, Bool.and_eq_true, decide_eq_true_eq, sourceTag_eq]
  simp only [dispatch, malformedHeader_iff, hreference, haddress, sourceTag_eq, hk]
  rfl

/-- Settles O9: the context as opened, of which the blocks keep every field named, and the table of R13. -/
theorem headerEventFixesContextAndClass : Obligations.HeaderEventFixesContextAndClass := by
  refine ⟨fun s bytes h hd => ?_, dispatch_eq⟩
  have hfixed := fixedFields_headerDispatch bytes ⟨s, openContext s h⟩
  simp only [fixedFields, Prod.mk.injEq] at hfixed
  obtain ⟨harrival, hkind, hflags, htag, hsequence, hlength, horigin, hdeclared, hcls, hflushed, htimeSet⟩ := hfixed
  refine ⟨(headerDispatch bytes ⟨s, openContext s h⟩).context, ?_, harrival, hkind, hflags, htag, hsequence, hlength,
    horigin, hdeclared, hcls, hflushed, htimeSet⟩
  simp only [headerEvent, hd, offerTrap_reception]

/-! ### The dispatch classes -/

/-- The lookup finds the one slot that the table law lets carry the tag (R30, R32). -/
theorem lookup_eq_some {s : State} {k : Slot} {tag : Tag} (hlaw : TableLaw s)
    (hk : (s.entry k).state = .active ∨ (s.entry k).state = .muted) (htag : (s.entry k).config.tag = tag) :
    lookup s tag = some k := by
  have vacant_ne {j : Slot} (h : (s.entry j).state = .active ∨ (s.entry j).state = .muted) :
      (s.entry j).state ≠ .vacant := by
    obtain h | h := h <;> simp [h]
  cases hj : lookup s tag with
  | none =>
    have hnone := List.find?_eq_none.1 hj k (List.mem_finRange k)
    simp [hk, htag] at hnone
  | some j =>
    have hfound := List.find?_some hj
    simp only [Bool.and_eq_true, Bool.or_eq_true, decide_eq_true_eq] at hfound
    obtain ⟨hstate, hsame⟩ := hfound
    rw [hlaw.2 j k (vacant_ne hstate) (vacant_ne hk) (hsame.trans htag.symm)]

/-- The lookup finds nothing where no ACTIVE or MUTED slot carries the tag. -/
theorem lookup_eq_none {s : State} {tag : Tag}
    (h : ∀ k, (s.entry k).state = .active ∨ (s.entry k).state = .muted → (s.entry k).config.tag ≠ tag) :
    lookup s tag = none := by
  refine List.find?_eq_none.2 fun k _ => ?_
  simpa using h k

/-- Settles O10, class by class. -/
theorem headerEventActsByClass : Obligations.HeaderEventActsByClass := by
  refine ⟨fun s bytes h hd => by simp only [headerEvent, hd]; rfl, fun data s c => ⟨?_, ?_, ?_, ?_, ?_, ?_⟩⟩
  · intro h
    simp only [headerDispatch, h]
    rfl
  · intro h
    simp only [headerDispatch, h]
    rfl
  · intro h
    simp only [headerDispatch, h]
  · rintro (h | h | h) <;> simp only [headerDispatch, h]
  · intro k h hlaw hk htag
    simp only [headerDispatch, h, headerStream, lookup_eq_some hlaw hk htag]
  · intro h hnone
    simp only [headerDispatch, h, headerStream, lookup_eq_none hnone, headerUnknown]
    cases s.params.unknownAction <;> rfl

end Sys2Proof.Machine

/-! The statements about the end event and the check word (R8, R11, R16, R18, R28, R37, R60, R103, R171, R175). -/

namespace Sys2Proof.Machine

open Sys2Proof

/-! ### Outcome and fate -/

/-- The line of R37 for a frame that Admission kept, on the counters. -/
theorem countFate_keptFate (policy : ErrorPolicy) (outcome : EndOutcome) (c : SlotCounters) :
    countFate (keptFate policy outcome) c =
      let k := { c with received := c.received + 1 }
      if outcome = .truncated ∨ outcome = .overlong then { k with discardedErrored := k.discardedErrored + 1 }
      else if outcome = .badCheck then
        if policy = .discard then { k with discardedErrored := k.discardedErrored + 1 }
        else { k with admitted := k.admitted + 1, erroredPassed := k.erroredPassed + 1 }
      else { k with admitted := k.admitted + 1 } := by
  cases outcome with
  | badCheck => cases policy <;> rfl
  | good => rfl
  | truncated => rfl
  | overlong => rfl

/-- The lines of R37 one after another, on the counters. -/
theorem countFate_fateOf (cl : Classified) (c : Context) (outcome : EndOutcome) (counters : SlotCounters) :
    countFate (fateOf cl c outcome) counters =
      let k := { counters with received := counters.received + 1 }
      if c.flushed = true then { k with discardedFlushed := k.discardedFlushed + 1 }
      else if cl.state = .muted then { k with discardedMuted := k.discardedMuted + 1 }
      else if c.admission = .behind then { k with discardedBehind := k.discardedBehind + 1 }
      else if c.admission = .late then { k with discardedLate := k.discardedLate + 1 }
      else if c.admission = .tooEarly then { k with discardedTooEarly := k.discardedTooEarly + 1 }
      else if c.admission = .quota then { k with discardedQuota := k.discardedQuota + 1 }
      else if c.admission = .pool then { k with discardedPool := k.discardedPool + 1 }
      else countFate (keptFate cl.config.errorPolicy outcome) counters := by
  unfold fateOf
  by_cases hflushed : c.flushed = true
  · simp only [hflushed, if_true]
    rfl
  by_cases hmuted : cl.state = .muted
  · simp only [hflushed, hmuted, if_true]
    rfl
  simp only [hflushed, hmuted, if_false]
  cases c.admission <;> rfl

/-- Settles O11: the outcome by length, then check word; the fate by the first line of R37 that applies. -/
theorem endEventFixesOutcomeAndFate : Obligations.EndEventFixesOutcomeAndFate := by
  refine ⟨fun c bytes early => ?_, fun c cl outcome s hcl => ?_⟩
  · simp only [endOutcome, checkWordCorrect, decide_eq_true_eq]
  · simp only [countEnd, hcl, State.modifyEntry, countFate_fateOf, countFate_keptFate]

/-! ### The parts of the end event -/

/-- A frame that no slot holds is counted in truncated where it is cut short, but not of class MALFORMED or OWN-RETURNED
(R18). -/
theorem countEnd_of_unclassified {c : Context} (hcl : c.classified = none) (outcome : EndOutcome) (s : State) :
    countEnd c outcome s =
      if (outcome = .truncated ∨ outcome = .overlong) ∧ c.cls ≠ .malformed ∧ c.cls ≠ .ownReturned then
        { s with counters := { s.counters with truncated := s.counters.truncated + 1 } }
      else s := by
  have hcut : cutShort outcome = true ↔ outcome = .truncated ∨ outcome = .overlong := by
    cases outcome <;> simp [cutShort]
  have hcounts : countsTruncated c.cls = true ↔ c.cls ≠ .malformed ∧ c.cls ≠ .ownReturned := by
    cases c.cls <;> simp [countsTruncated]
  simp only [countEnd, hcl, Bool.and_eq_true, hcut, hcounts]
  rfl

/-- With the reception over no slot is engaged, so that a RETIRING slot waits for its held frames alone (R28). -/
theorem closeReception_of_classified {c : Context} {cl : Classified} (hcl : c.classified = some cl) (s : State) :
    closeReception c s =
      let ended := { s with reception := none }
      let e := ended.entry cl.slot
      if e.state = .retiring ∧ e.held = 0 then
        raise .retired (some cl.slot) e.config.tag e.counters.received
          (ended.setEntry cl.slot { e with state := .vacant })
      else ended := by
  have hengaged : ({ s with reception := none } : State).engaged ≠ some cl.slot := by
    simp [State.engaged, State.context]
  simp only [closeReception, hcl, retireCheck, hengaged, ne_eq, not_false_eq_true, and_true, vacate, State.modifyEntry]

/-- What the end event hands to the Agent: the payload of a GOOD request (R16). -/
theorem settleRequest_eq (c : Context) (outcome : EndOutcome) (bytes : List Byte) (s : State) :
    settleRequest c outcome bytes s =
      if outcome = .good ∧ c.cls = .localRequest then intakePayload false (framePayload c bytes) s
      else if outcome = .good ∧ c.cls = .allGatesRequest then intakePayload true (framePayload c bytes) s
      else s := by
  unfold settleRequest
  cases outcome with
  | good => cases c.cls <;> rfl
  | badCheck => cases c.cls <;> rfl
  | truncated => cases c.cls <;> rfl
  | overlong => cases c.cls <;> rfl

theorem intakePayload_of_short (allGates : Bool) {payload : List Byte} (h : payload.length < 4) (s : State) :
    intakePayload allGates payload s =
      { s with counters := { s.counters with requestsDropped := s.counters.requestsDropped + 1 } } := by
  match payload with
  | [] => rfl
  | [_] => rfl
  | [_, _] => rfl
  | [_, _, _] => rfl
  | _ :: _ :: _ :: _ :: rest =>
    simp only [List.length_cons] at h
    omega

/-- Settles O12: the frame is closed part by part, and then a GOOD request handed on; an early end has none. -/
theorem endEventTakesItsPartsInOrder : Obligations.EndEventTakesItsPartsInOrder := by
  refine ⟨?_, fun _ _ _ _ _ _ _ => rfl,
    fun s allGates => ⟨fun _ _ _ _ _ => rfl, fun _ h => intakePayload_of_short allGates h s⟩⟩
  intro s bytes c early hhigh hup hreception o counted stored payload timed ended closed
  have hcounted : countEnd c o s = counted := by
    cases hcl : c.classified with
    | none => simp only [counted, hcl, countEnd_of_unclassified hcl]
    | some cl => simp only [counted, hcl]
  have hstored : settleReservation c o counted = stored := by
    cases hd : c.reservation <;> simp only [stored, settleReservation, hd]
  have htimed : settleClock c o bytes stored = timed := by
    have hpayload : framePayload c bytes = payload := rfl
    by_cases hused : c.cls = .timeReference ∧ o = .good ∧ c.timeSet = false
    · cases hm : masterTime payload <;> simp only [settleClock, timed, hpayload, hm, if_pos hused]
    · simp only [settleClock, timed, if_neg hused]
  have hclosed : frameClosed c o bytes s = closed := by
    rw [frameClosed, hcounted, hstored, htimed]
    cases hcl : c.classified with
    | none => simp only [closed, ended, closeReception, hcl]
    | some cl => simp only [closed, ended, hcl, closeReception_of_classified hcl]
  have hend : endEvent early s = settleRequest c o bytes closed := by
    simp only [endEvent, hreception, endFrame_eq]
    rw [← hclosed]
  refine ⟨fun hearly => act_of_running hhigh ?_, fun hearly => act_of_running hhigh ?_⟩
  · calc
      endGroup s = endEvent early s := by simp only [endGroup, hup, hearly]
      _ = settleRequest c o bytes closed := hend
      _ = _ := settleRequest_eq c o bytes closed
  · have hnot : o ≠ .good := by simpa only [o, hearly] using endOutcome_early_ne_good c bytes
    calc
      invalidGroup s = endEvent early s := by simp only [invalidGroup, hup, hearly]
      _ = settleRequest c o bytes closed := hend
      _ = closed := settleRequest_of_not_good c hnot bytes closed

/-! ### The check word -/

/-- The bits of a byte, most significant first. -/
def byteBits (b : Byte) : List Bool := (List.range 8).map fun i => b.getLsbD (7 - i)

/-- One step of the register of R175, by the bit shifted out. -/
theorem crcBit_eq (register : BitVec 32) (bit : Bool) :
    crcBit register bit =
      if register.getLsbD 31 ≠ bit then (register <<< 1) ^^^ 0x04C11DB7 else register <<< 1 := by
  simp [crcBit, BitVec.msb_eq_getLsbD_last]

/-- The register goes through the bits of all bytes one after another. -/
theorem checkWord_eq_foldl (bytes : List Byte) :
    checkWord bytes = (bytes.flatMap byteBits).foldl crcBit 0xFFFFFFFF ^^^ 0xFFFFFFFF := by
  rw [List.foldl_flatMap]
  rfl

theorem length_bytes32 (v : BitVec 32) : (bytes32 v).length = 4 := rfl

theorem length_withCheckWord (bytes : List Byte) : (withCheckWord bytes).length = bytes.length + 4 := by
  simp [withCheckWord, length_bytes32]

/-- A receiver finds the check word of a frame completed with it correct. -/
theorem checkWordCorrect_withCheckWord (bytes : List Byte) : checkWordCorrect (withCheckWord bytes) = true := by
  simp [checkWordCorrect, withCheckWord, length_bytes32]

/-- Settles O21: the check word as a fold over the bits, and the marked copy as a changed body completed anew. -/
theorem copiesCarryCorrectCheckWords : Obligations.CopiesCarryCorrectCheckWords := by
  refine ⟨fun bytes => ?_, checkWordCorrect_withCheckWord, fun frame hlength => ?_⟩
  · rw [checkWord_eq_foldl, show crcBit = _ from funext fun register => funext (crcBit_eq register)]
    rfl
  · have hbody (i : Nat) (hi : i < frame.length - 4) :
        (markDiscontinuity frame)[i]? =
          if frame.length - 5 = i then frame[i]?.map (fun b => b ||| 0x40) else frame[i]? := by
      have hleft : i <
          ((frame.take (frame.length - 4)).modify (frame.length - 5) (· ||| laneDiscontinuityBit)).length := by
        rw [List.length_modify, List.length_take]
        omega
      rw [markDiscontinuity, withCheckWord, List.getElem?_append_left hleft, List.getElem?_modify,
        List.getElem?_take_of_lt hi]
      split_ifs <;> simp [laneDiscontinuityBit]
    refine ⟨?_, checkWordCorrect_withCheckWord _, fun i hi => ?_, ?_⟩
    · simp only [markDiscontinuity, length_withCheckWord, List.length_modify, List.length_take]
      omega
    · rw [hbody i (by omega), if_neg (by omega)]
    · rw [hbody _ (by omega), if_pos rfl]

end Sys2Proof.Machine

/-! SUPPORT. The gate's ledger, that is the Stream Table, the pools and the Pending Change List, and the moves it is
changed by. The laws of the table, the list, the counters and the storage are kept by every move. -/

namespace Sys2Proof.Machine

open Sys2Proof

/-! ### Moves of the ledger -/

/-- The held count of a slot's stream changed; a transit frame has none. -/
def State.modifyHeld (s : State) (x : Stream) (f : Nat → Nat) : State :=
  match x with
  | .slot k => s.modifyEntry k fun e => { e with held := f e.held }
  | .transit => s

/-- A descriptor becomes FREE and its cells join the free list. -/
def returnCells (d : DescNo) (r : Descriptor) (s : State) : State :=
  { s with pool := { s.pool with freeCells := s.pool.freeCells ++ r.cells } }.setDesc d none

/-- A descriptor given back: storage returned, its slot's held count one less. -/
def giveBack (d : DescNo) (r : Descriptor) (s : State) : State :=
  (returnCells d r s).modifyHeld r.stream (· - 1)

/-- A reservation made: storage taken, its slot's held count one more. -/
def makeReservation (f : ReservationFor) (d : DescNo) (s : State) : State :=
  (takeReservation f d s).modifyHeld f.stream (· + 1)

/-- There is room for one more frame of a stream: the slot is in use and below the highest count, or the transit limit
is not reached (R34, R76). -/
def HasRoom (s : State) (x : Stream) : Prop :=
  match x with
  | .slot k => (s.entry k).state ≠ .vacant ∧ (s.entry k).held < 255
  | .transit => s.transitCount < 32

/-- An entry changed in what the laws leave open: configuration and held count stay, the state stays or becomes VACANT
where no frame is held, and counters that add up still do. -/
structure EntryKept (e e' : Entry) : Prop where
  config : e'.config = e.config
  held : e'.held = e.held
  state : e'.state = e.state ∨ e'.state = .vacant ∧ e.held = 0
  counters : CountsAddUp e.counters → CountsAddUp e'.counters

theorem EntryKept.refl (e : Entry) : EntryKept e e := ⟨rfl, rfl, .inl rfl, id⟩

/-- One move of the ledger. -/
inductive LedgerMove (s : State) : State → Prop where
  /-- Entries change in what the laws leave open, pools and list stay. -/
  | entries {t : State} (pool : t.pool = s.pool) (changes : t.stage.changes = s.stage.changes)
      (owner : t.stage.owner = s.stage.owner) (entry : ∀ k, EntryKept (s.entry k) (t.entry k)) : LedgerMove s t
  /-- A descriptor in use is written again with its stream and its cells. -/
  | rewritten {d : DescNo} {r r' : Descriptor} (desc : s.desc d = some r) (stream : r'.stream = r.stream)
      (cells : r'.cells = r.cells) : LedgerMove s (s.setDesc d (some r'))
  /-- A descriptor is given back. -/
  | freed {d : DescNo} {r : Descriptor} (desc : s.desc d = some r) : LedgerMove s (giveBack d r s)
  /-- A FREE descriptor is reserved. -/
  | reserved {d : DescNo} {f : ReservationFor} (desc : s.desc d = none) (room : HasRoom s f.stream) :
      LedgerMove s (makeReservation f d s)
  /-- A valid list is applied. -/
  | committed (valid : validate s = none) : LedgerMove s (applyChanges s)
  /-- The list is changed by its own rules. -/
  | staged {st : Stage} (law : ListLaw s.stage → ListLaw st) (range : StagedInRange s.stage → StagedInRange st) :
      LedgerMove s { s with stage := st }
  /-- The gate is reset. -/
  | reset (u : State) : LedgerMove s (hardReset u)

/-- Moves of the ledger one after another. -/
def LedgerMoves (s t : State) : Prop := Relation.ReflTransGen LedgerMove s t

theorem LedgerMoves.refl (s : State) : LedgerMoves s s := Relation.ReflTransGen.refl

theorem LedgerMoves.single {s t : State} (h : LedgerMove s t) : LedgerMoves s t := Relation.ReflTransGen.single h

theorem LedgerMoves.trans {s t u : State} (h : LedgerMoves s t) (h' : LedgerMoves t u) : LedgerMoves s u :=
  Relation.ReflTransGen.trans h h'

/-- What every move keeps, several moves keep. -/
theorem LedgerMoves.keeps {P : State → Prop} (hP : ∀ s t, LedgerMove s t → P s → P t) {s t : State}
    (h : LedgerMoves s t) (hs : P s) : P t := by
  induction h with
  | refl => exact hs
  | tail _ hmove ih => exact hP _ _ hmove ih

/-! ### The changed entries and descriptors -/

theorem State.entry_modifyHeld (s : State) (x : Stream) (f : Nat → Nat) (k : Slot) :
    (s.modifyHeld x f).entry k =
      { s.entry k with held := if x = .slot k then f (s.entry k).held else (s.entry k).held } := by
  cases x with
  | transit => rfl
  | slot j =>
    by_cases hj : j = k
    · subst hj
      simp [State.modifyHeld]
    · have hne : Stream.slot j ≠ .slot k := fun h => hj (Stream.slot.inj h)
      simp [State.modifyHeld, State.entry_modifyEntry_ne s _ (Ne.symm hj), hne]

@[simp] theorem State.pool_modifyHeld (s : State) (x : Stream) (f : Nat → Nat) :
    (s.modifyHeld x f).pool = s.pool := by cases x <;> rfl

@[simp] theorem State.stage_modifyHeld (s : State) (x : Stream) (f : Nat → Nat) :
    (s.modifyHeld x f).stage = s.stage := by cases x <;> rfl

theorem entry_giveBack (d : DescNo) (r : Descriptor) (s : State) (k : Slot) :
    (giveBack d r s).entry k =
      { s.entry k with held := if r.stream = .slot k then (s.entry k).held - 1 else (s.entry k).held } :=
  State.entry_modifyHeld ..

theorem entry_makeReservation (f : ReservationFor) (d : DescNo) (s : State) (k : Slot) :
    (makeReservation f d s).entry k =
      { s.entry k with held := if f.stream = .slot k then (s.entry k).held + 1 else (s.entry k).held } :=
  State.entry_modifyHeld ..

/-! ### Descriptors in use -/

/-- The other descriptors in use. -/
def otherDescs (s : State) (d : DescNo) : List Descriptor :=
  (s.pool.descs.toList.eraseIdx d.val).filterMap id

/-- A list and the same list with one place written, up to order. -/
theorem list_set_perm {α : Type} (xs : List α) (i : Nat) (x : α) (h : i < xs.length) :
    (xs.set i x).Perm (x :: xs.eraseIdx i) := by
  rw [List.set_eq_take_append_cons_drop, if_pos h, List.eraseIdx_eq_take_drop_succ]
  exact List.perm_middle

/-- The descriptors in use after one is written: that one, and the others. -/
theorem descsInUse_setDesc_perm (s : State) (d : DescNo) (x : Option Descriptor) :
    (s.setDesc d x).descsInUse.Perm (x.toList ++ otherDescs s d) := by
  have h := (list_set_perm s.pool.descs.toList d.val x (by simp)).filterMap id
  have hx : (x :: s.pool.descs.toList.eraseIdx d.val).filterMap id = x.toList ++ otherDescs s d := by
    cases x <;> simp [otherDescs]
  rw [← hx, State.descsInUse, State.setDesc, Vector.toList_set]
  exact h

theorem State.setDesc_desc (s : State) (d : DescNo) : s.setDesc d (s.desc d) = s := by
  have h : s.pool.descs.set d.val (s.pool.descs.get d) d.isLt = s.pool.descs := by
    simp [Vector.get_eq_getElem]
  simp only [State.setDesc, State.desc, h]

theorem descsInUse_perm (s : State) (d : DescNo) :
    s.descsInUse.Perm ((s.desc d).toList ++ otherDescs s d) := by
  simpa only [State.setDesc_desc] using descsInUse_setDesc_perm s d (s.desc d)

/-- The number of descriptors in use for a stream. -/
def streamCount (s : State) (x : Stream) : Nat := (s.descsInUse.filter fun r => decide (r.stream = x)).length

theorem descsOfSlot_eq (s : State) (k : Slot) : descsOfSlot s k = streamCount s (.slot k) := rfl

theorem transitCount_eq (s : State) : s.transitCount = streamCount s .transit := rfl

theorem streamCount_of_perm {s : State} {rs : List Descriptor} (h : s.descsInUse.Perm rs) (x : Stream) :
    streamCount s x = (rs.filter fun r => decide (r.stream = x)).length :=
  (h.filter _).length_eq

theorem ownedCells_of_perm {s : State} {rs : List Descriptor} (h : s.descsInUse.Perm rs) :
    (ownedCells s).Perm (rs.flatMap (·.cells)) :=
  h.flatMap_right _

theorem descsInUse_congr {s t : State} (h : t.pool.descs = s.pool.descs) : t.descsInUse = s.descsInUse := by
  rw [State.descsInUse, h]
  rfl

/-- The descriptors in use after one is given back. -/
theorem descsInUse_giveBack (d : DescNo) (r : Descriptor) (s : State) :
    (giveBack d r s).descsInUse.Perm (otherDescs s d) := by
  have h := descsInUse_setDesc_perm s d none
  rwa [← descsInUse_congr (s := s.setDesc d none) (t := giveBack d r s) (by simp [giveBack]; rfl)] at h

/-- The descriptors in use after a reservation. -/
theorem descsInUse_makeReservation (f : ReservationFor) (d : DescNo) (s : State) :
    (makeReservation f d s).descsInUse.Perm
      (reservedDescriptor f s.pool.admissionCount (s.pool.freeCells.take (cellsNeeded f.length)) :: otherDescs s d) := by
  have h := descsInUse_setDesc_perm s d
    (some (reservedDescriptor f s.pool.admissionCount (s.pool.freeCells.take (cellsNeeded f.length))))
  rwa [← descsInUse_congr (t := makeReservation f d s) (by simp [makeReservation]; rfl)] at h

/-! ### What every move keeps -/

/-- The laws of the list and of the table together. -/
def TableAndListLaw (s : State) : Prop := ListLaw s.stage ∧ StagedInRange s.stage ∧ TableLaw s

/-- The table's law survives where the entries that are not VACANT were so before, with the same configuration. -/
theorem TableLaw.of_entries {s t : State} (hs : TableLaw s)
    (h : ∀ k, (t.entry k).state ≠ .vacant →
      (s.entry k).state ≠ .vacant ∧ (t.entry k).config = (s.entry k).config) : TableLaw t := by
  obtain ⟨hrange, hunique⟩ := hs
  refine ⟨fun k hk => ?_, fun j k hj hk htag => ?_⟩
  · obtain ⟨hk', hc⟩ := h k hk
    exact hc ▸ hrange k hk'
  · obtain ⟨hj', hcj⟩ := h j hj
    obtain ⟨hk', hck⟩ := h k hk
    exact hunique j k hj' hk' (by rw [← hcj, ← hck, htag])

/-- The list's laws read its changes and its owner. -/
theorem listLaw_congr {st st' : Stage} (hc : st'.changes = st.changes) (ho : st'.owner = st.owner) :
    (ListLaw st → ListLaw st') ∧ (StagedInRange st → StagedInRange st') := by
  simp only [ListLaw, StagedInRange, hc, ho]
  exact ⟨id, id⟩

theorem listLaw_emptyStage : ListLaw emptyStage ∧ StagedInRange emptyStage := by
  simp [ListLaw, StagedInRange, emptyStage, Stage.reset]

theorem hardReset_table (s : State) : (hardReset s).table = Vector.replicate 64 .reset := by
  rw [hardReset_eq]
  rfl

theorem hardReset_pool (s : State) : (hardReset s).pool = .reset := by
  rw [hardReset_eq]
  rfl

theorem hardReset_stage (s : State) : (hardReset s).stage = emptyStage := by
  rw [hardReset_eq]
  rfl

/-- After a hard reset every slot is as R24 says. -/
theorem hardReset_entry (s : State) (k : Slot) : (hardReset s).entry k = .reset := by
  simp [State.entry, hardReset_table, Vector.get_eq_getElem]

/-- With the pools as after a hard reset no descriptor is in use. -/
theorem descsInUse_of_reset {s : State} (h : s.pool = .reset) : s.descsInUse = [] := by
  rw [State.descsInUse, h, Pool.reset, Vector.toList_replicate]
  simp

/-! ### Commits -/

/-- The change a list holds for a slot is one of the list and names the slot. -/
theorem changeFor_some {cs : List Change} {k : Slot} {c : Change} (h : changeFor cs k = some c) :
    c ∈ cs ∧ c.slot = k :=
  ⟨List.mem_of_find?_eq_some h, by simpa using List.find?_some h⟩

/-- The one change of a slot is found. -/
theorem changeFor_of_mem {cs : List Change} (hn : (cs.map Change.slot).Nodup) {c : Change} (h : c ∈ cs) :
    changeFor cs c.slot = some c := by
  cases hf : changeFor cs c.slot with
  | none => simpa using List.find?_eq_none.1 hf c h
  | some x =>
    obtain ⟨hx, hslot⟩ := changeFor_some hf
    rw [List.inj_on_of_nodup_map hn hx h hslot]

/-- A list passes exactly where each of its changes does. -/
theorem firstFailure_eq_none {s : State} {i : Nat} {cs : List Change} :
    firstFailure s i cs = none ↔ ∀ c ∈ cs, changeFailure s c = none := by
  induction cs generalizing i with
  | nil => simp [firstFailure]
  | cons c cs ih =>
    simp only [firstFailure, List.forall_mem_cons]
    cases changeFailure s c <;> simp [ih]

theorem validate_eq_none {s : State} : validate s = none ↔ ∀ c ∈ s.stage.changes, changeFailure s c = none :=
  firstFailure_eq_none

/-- What a RETIRE leaves of its slot (R27). -/
theorem retireEntry_entry (k : Slot) (s : State) :
    (retireEntry k s).entry k =
      { s.entry k with
        state := if (s.entry k).held = 0 ∧ s.engaged ≠ some k then .vacant else .retiring } := by
  unfold retireEntry
  split <;> simp [vacate]

/-- What a change makes of its slot's entry (R25 to R27). -/
def changedEntry (engaged : Option Slot) (e : Entry) : Change → Entry
  | .setEntry _ into config reset =>
    if e.state = .vacant then createEntry into config e else alterEntry into config reset e
  | .retire k => { e with state := if e.held = 0 ∧ engaged ≠ some k then .vacant else .retiring }

theorem applyChange_entry (s : State) (c : Change) :
    (applyChange s c).entry c.slot = changedEntry s.engaged (s.entry c.slot) c := by
  cases c with
  | setEntry k into config reset => exact State.entry_modifyEntry_same ..
  | retire k => exact retireEntry_entry k s

theorem applyChange_engaged (s : State) (c : Change) : (applyChange s c).engaged = s.engaged := by
  simp only [State.engaged, State.context, applyChange_reception]

/-- A list with one change for each of its slots changes each slot by its own change. -/
theorem foldl_applyChange_entry {cs : List Change} (hn : (cs.map Change.slot).Nodup) (s : State) (k : Slot) :
    (cs.foldl applyChange s).entry k =
      match changeFor cs k with
      | some c => changedEntry s.engaged (s.entry k) c
      | none => s.entry k := by
  induction cs generalizing s with
  | nil => rfl
  | cons c cs ih =>
    obtain ⟨hc, hn⟩ := List.nodup_cons.1 hn
    rw [List.foldl_cons, ih hn]
    by_cases hk : c.slot = k
    · subst hk
      have hnone : changeFor cs c.slot = none :=
        List.find?_eq_none.2 fun x hx => by
          simpa using fun h : x.slot = c.slot => hc (h ▸ List.mem_map_of_mem hx)
      have hfirst : changeFor (c :: cs) c.slot = some c := by simp [changeFor]
      simp only [hnone, hfirst]
      exact applyChange_entry s c
    · have hskip : changeFor (c :: cs) k = changeFor cs k := by simp [changeFor, hk]
      rw [hskip, applyChange_entry_ne (Ne.symm hk), applyChange_engaged]

theorem applyChanges_entry {s : State} (hn : (s.stage.changes.map Change.slot).Nodup) (k : Slot) :
    (applyChanges s).entry k =
      match changeFor s.stage.changes k with
      | some c => changedEntry s.engaged (s.entry k) c
      | none => s.entry k :=
  foldl_applyChange_entry hn s k

/-- The reason a SET-ENTRY fails for, as one chain (R125). -/
theorem changeFailure_setEntry (s : State) (k : Slot) (into : CommitInto) (config : EntryConfig) (reset : Bool) :
    changeFailure s (.setEntry k into config reset) =
      if (s.entry k).state = .retiring then some .slotRetiring
      else if (s.entry k).state ≠ .vacant ∧ config.tag ≠ (s.entry k).config.tag then some .tagChange
      else if tagTaken s k config.tag then some .duplicateTag
      else none := by
  cases h : (s.entry k).state <;> simp [changeFailure, h]

/-- A RETIRE passes for an ACTIVE or MUTED slot alone (R125). -/
theorem changeFailure_retire (s : State) (k : Slot) :
    changeFailure s (.retire k) =
      if (s.entry k).state = .active ∨ (s.entry k).state = .muted then none else some .state := by
  cases h : (s.entry k).state <;> simp [changeFailure, h]

theorem tagTaken_iff {s : State} {k : Slot} {tag : Tag} :
    tagTaken s k tag = true ↔ ∃ j, j ≠ k ∧ tagAfter s j = some tag := by
  simp [tagTaken, allSlots]

/-- A SET-ENTRY that passes has a tag that no other slot holds after the list. -/
theorem not_tagTaken_of_passes {s : State} {k : Slot} {into : CommitInto} {config : EntryConfig} {reset : Bool}
    (h : changeFailure s (.setEntry k into config reset) = none) {j : Slot} (hj : j ≠ k) :
    tagAfter s j ≠ some config.tag := by
  rw [changeFailure_setEntry] at h
  split_ifs at h with _ _ htaken
  exact fun hsame => htaken (tagTaken_iff.2 ⟨j, hj, hsame⟩)

/-- A slot that is not VACANT after the list holds the tag that validation gave it (R125). -/
theorem tagAfter_of_applied {s : State} (hn : (s.stage.changes.map Change.slot).Nodup) {k : Slot}
    (hk : ((applyChanges s).entry k).state ≠ .vacant) :
    tagAfter s k = some ((applyChanges s).entry k).config.tag := by
  rw [applyChanges_entry hn] at hk ⊢
  unfold tagAfter
  cases hc : changeFor s.stage.changes k with
  | none => simp_all
  | some c =>
    cases c with
    | retire j => rfl
    | setEntry j into config reset =>
      simp only [changedEntry]
      split <;> rfl

/-- A slot not named by a SET-ENTRY that is not VACANT after a valid list was not before, with its configuration. -/
theorem entry_before_commit {s : State} (hn : (s.stage.changes.map Change.slot).Nodup) (hvalid : validate s = none)
    {k : Slot} (hk : ((applyChanges s).entry k).state ≠ .vacant)
    (hset : ∀ j into config reset, changeFor s.stage.changes k ≠ some (.setEntry j into config reset)) :
    (s.entry k).state ≠ .vacant ∧ ((applyChanges s).entry k).config = (s.entry k).config := by
  rw [applyChanges_entry hn] at hk ⊢
  cases hc : changeFor s.stage.changes k with
  | none => simpa [hc] using hk
  | some c =>
    cases c with
    | setEntry j into config reset => exact (hset _ _ _ _ hc).elim
    | retire j =>
      obtain ⟨hmem, rfl⟩ := changeFor_some hc
      have hpass := validate_eq_none.1 hvalid _ hmem
      rw [changeFailure_retire] at hpass
      refine ⟨fun hv => ?_, rfl⟩
      rw [Change.slot] at hv
      simp [hv] at hpass

/-- A valid list keeps one tag to one slot, and every entry in range (R20, R32, R125). -/
theorem tableLaw_applyChanges {s : State} (hlist : ListLaw s.stage) (hstaged : StagedInRange s.stage)
    (htable : TableLaw s) (hvalid : validate s = none) : TableLaw (applyChanges s) := by
  obtain ⟨-, hn, -⟩ := hlist
  obtain ⟨hrange, hunique⟩ := htable
  have named (k : Slot) :
      (∃ into config reset, changeFor s.stage.changes k = some (.setEntry k into config reset)) ∨
        ∀ j into config reset, changeFor s.stage.changes k ≠ some (.setEntry j into config reset) := by
    by_cases h : ∃ j into config reset, changeFor s.stage.changes k = some (.setEntry j into config reset)
    · obtain ⟨j, into, config, reset, hj⟩ := h
      obtain ⟨-, hslot⟩ := changeFor_some hj
      exact .inl ⟨into, config, reset, hslot ▸ hj⟩
    · exact .inr fun j into config reset hj => h ⟨j, into, config, reset, hj⟩
  have set_config {k : Slot} {into : CommitInto} {config : EntryConfig} {reset : Bool}
      (h : changeFor s.stage.changes k = some (.setEntry k into config reset)) :
      ((applyChanges s).entry k).config = config := by
    rw [applyChanges_entry hn, h]
    simp only [changedEntry]
    split <;> rfl
  have set_alone {j k : Slot} {into : CommitInto} {config : EntryConfig} {reset : Bool}
      (h : changeFor s.stage.changes k = some (.setEntry k into config reset))
      (hj : ((applyChanges s).entry j).state ≠ .vacant)
      (htag : ((applyChanges s).entry j).config.tag = ((applyChanges s).entry k).config.tag) : j = k := by
    by_contra hne
    refine not_tagTaken_of_passes (validate_eq_none.1 hvalid _ (changeFor_some h).1) hne ?_
    rw [tagAfter_of_applied hn hj, htag, set_config h]
  refine ⟨fun k hk => ?_, fun j k hj hk htag => ?_⟩
  · obtain ⟨into, config, reset, h⟩ | h := named k
    · rw [set_config h]
      exact hstaged _ (changeFor_some h).1 _ _ _ _ rfl
    · obtain ⟨hk', hc⟩ := entry_before_commit hn hvalid hk h
      exact hc ▸ hrange k hk'
  · obtain ⟨_, _, _, h⟩ | hnotk := named k
    · exact set_alone h hj htag
    obtain ⟨_, _, _, h⟩ | hnotj := named j
    · exact (set_alone h hk htag.symm).symm
    obtain ⟨hj', hcj⟩ := entry_before_commit hn hvalid hj hnotj
    obtain ⟨hk', hck⟩ := entry_before_commit hn hvalid hk hnotk
    exact hunique j k hj' hk' (by rw [← hcj, ← hck, htag])

/-! ### The laws under each move -/

theorem LedgerMove.tableAndListLaw {s t : State} (h : LedgerMove s t) (hs : TableAndListLaw s) :
    TableAndListLaw t := by
  obtain ⟨hlist, hstaged, htable⟩ := hs
  cases h with
  | entries pool changes owner entry =>
    obtain ⟨hl, hr⟩ := listLaw_congr changes owner
    refine ⟨hl hlist, hr hstaged, htable.of_entries fun k hk => ⟨?_, (entry k).config⟩⟩
    obtain h | ⟨h, -⟩ := (entry k).state
    · exact h ▸ hk
    · exact absurd h hk
  | rewritten => exact ⟨hlist, hstaged, htable⟩
  | @freed d r =>
    have hstage : (giveBack d r s).stage = s.stage := State.stage_modifyHeld ..
    exact ⟨hstage ▸ hlist, hstage ▸ hstaged, htable.of_entries fun k hk => by
      rw [entry_giveBack] at hk ⊢
      exact ⟨hk, rfl⟩⟩
  | @reserved d f =>
    have hstage : (makeReservation f d s).stage = s.stage := State.stage_modifyHeld ..
    exact ⟨hstage ▸ hlist, hstage ▸ hstaged, htable.of_entries fun k hk => by
      rw [entry_makeReservation] at hk ⊢
      exact ⟨hk, rfl⟩⟩
  | committed valid => exact ⟨listLaw_emptyStage.1, listLaw_emptyStage.2, tableLaw_applyChanges hlist hstaged htable valid⟩
  | staged law range => exact ⟨law hlist, range hstaged, htable⟩
  | reset u =>
    refine ⟨hardReset_stage u ▸ listLaw_emptyStage.1, hardReset_stage u ▸ listLaw_emptyStage.2, ?_⟩
    simp [TableLaw, hardReset_entry, Entry.reset]

/-- A change keeps the sum of its slot's counters: a created entry has them all at 0. -/
theorem changedEntry_countsAddUp {engaged : Option Slot} {e : Entry} {c : Change} (h : CountsAddUp e.counters) :
    CountsAddUp (changedEntry engaged e c).counters := by
  cases c with
  | retire k => exact h
  | setEntry k into config reset =>
    simp only [changedEntry]
    split
    · simp [createEntry, Entry.reset, CountsAddUp, SlotCounters.zero]
    · exact h

/-- What each change keeps of every entry, a list of changes keeps. -/
theorem foldl_applyChange_keeps {P : Entry → Prop}
    (hP : ∀ engaged e c, P e → P (changedEntry engaged e c)) {s : State} {k : Slot} (hs : P (s.entry k))
    (cs : List Change) : P ((cs.foldl applyChange s).entry k) := by
  induction cs generalizing s with
  | nil => exact hs
  | cons c cs ih =>
    refine ih ?_
    by_cases hk : k = c.slot
    · subst hk
      rw [applyChange_entry]
      exact hP _ _ _ hs
    · rwa [applyChange_entry_ne hk]

theorem LedgerMove.counterLaw {s t : State} (h : LedgerMove s t) (hs : CounterLaw s) : CounterLaw t := by
  intro k
  cases h with
  | entries _ _ _ entry => exact (entry k).counters (hs k)
  | rewritten => exact hs k
  | freed =>
    rw [entry_giveBack]
    exact hs k
  | reserved =>
    rw [entry_makeReservation]
    exact hs k
  | committed =>
    exact foldl_applyChange_keeps (P := fun e => CountsAddUp e.counters) (fun _ _ _ => changedEntry_countsAddUp)
      (hs k) s.stage.changes
  | staged => exact hs k
  | reset u =>
    rw [hardReset_entry]
    simp [Entry.reset, CountsAddUp, SlotCounters.zero]

theorem LedgerMove.cellLaw {s t : State} (h : LedgerMove s t) (hs : CellLaw s) : CellLaw t := by
  have of_pool {t : State} (h : t.pool = s.pool) : CellLaw t := by
    simpa only [CellLaw, ownedCells, descsInUse_congr (congrArg Pool.descs h), h] using hs
  cases h with
  | entries pool => exact of_pool pool
  | @rewritten d r r' desc stream cells =>
    have hold := ownedCells_of_perm (descsInUse_perm s d)
    have hnew := ownedCells_of_perm (descsInUse_setDesc_perm s d (some r'))
    rw [desc] at hold
    simp only [Option.toList_some, List.cons_append, List.flatMap_cons, cells] at hold hnew
    exact ((hnew.trans hold.symm).append_left _).trans hs
  | @freed d r desc =>
    have hold := ownedCells_of_perm (descsInUse_perm s d)
    have hnew := ownedCells_of_perm (descsInUse_giveBack d r s)
    have hfree : (giveBack d r s).pool.freeCells = s.pool.freeCells ++ r.cells := by simp [giveBack, returnCells]
    simp only [desc, Option.toList_some, List.cons_append, List.nil_append, List.flatMap_cons] at hold
    rw [CellLaw, hfree]
    calc s.pool.freeCells ++ r.cells ++ ownedCells (giveBack d r s)
      _ |>.Perm (s.pool.freeCells ++ (r.cells ++ (otherDescs s d).flatMap (·.cells))) := by
          rw [List.append_assoc]
          exact (hnew.append_left _).append_left _
      _ |>.Perm (s.pool.freeCells ++ ownedCells s) := hold.symm.append_left _
      _ |>.Perm (List.range 1024) := hs
  | @reserved d f desc =>
    have hold := ownedCells_of_perm (descsInUse_perm s d)
    have hnew := ownedCells_of_perm (descsInUse_makeReservation f d s)
    have hfree : (makeReservation f d s).pool.freeCells = s.pool.freeCells.drop (cellsNeeded f.length) := by
      simp [makeReservation, takeReservation]
    simp only [desc, Option.toList_none, List.nil_append] at hold
    simp only [List.flatMap_cons, reservedDescriptor] at hnew
    rw [CellLaw, hfree]
    calc s.pool.freeCells.drop (cellsNeeded f.length) ++ ownedCells (makeReservation f d s)
      _ |>.Perm (s.pool.freeCells.drop (cellsNeeded f.length) ++
            (s.pool.freeCells.take (cellsNeeded f.length) ++ (otherDescs s d).flatMap (·.cells))) :=
          hnew.append_left _
      _ |>.Perm (s.pool.freeCells ++ (otherDescs s d).flatMap (·.cells)) := by
          rw [← List.append_assoc]
          refine (List.perm_append_comm.append_right _).trans ?_
          rw [List.take_append_drop]
      _ |>.Perm (s.pool.freeCells ++ ownedCells s) := hold.symm.append_left _
      _ |>.Perm (List.range 1024) := hs
  | committed => exact of_pool (applyChanges_pool s)
  | staged => exact of_pool rfl
  | reset u =>
    rw [CellLaw, ownedCells, descsInUse_of_reset (hardReset_pool u), hardReset_pool]
    simp [Pool.reset]

/-- A change keeps the held count, and leaves a slot VACANT only where no frame is held. -/
theorem changedEntry_held (engaged : Option Slot) (e : Entry) (c : Change) :
    (changedEntry engaged e c).held = e.held := by
  cases c with
  | retire k => rfl
  | setEntry k into config reset =>
    simp only [changedEntry]
    split <;> rfl

theorem changedEntry_vacant {engaged : Option Slot} {e : Entry} {c : Change}
    (h : (changedEntry engaged e c).state = .vacant) : e.held = 0 := by
  cases c with
  | retire k =>
    simp only [changedEntry] at h
    split_ifs at h with h0
    exact h0.1
  | setEntry k into config reset =>
    simp only [changedEntry] at h
    split_ifs at h <;> cases into <;> simp [createEntry, alterEntry, CommitInto.entryState] at h

theorem LedgerMove.heldLaw {s t : State} (h : LedgerMove s t) (hs : HeldLaw s) : HeldLaw t := by
  obtain ⟨hheld, htransit⟩ := hs
  have of_entries {t : State} (hd : t.pool.descs = s.pool.descs)
      (he : ∀ k, (t.entry k).held = (s.entry k).held ∧ ((t.entry k).state = .vacant → (s.entry k).held = 0)) :
      HeldLaw t := by
    refine ⟨fun k => ?_, ?_⟩
    · obtain ⟨hcount, hmax, -⟩ := hheld k
      obtain ⟨hsame, hvacant⟩ := he k
      rw [descsOfSlot, descsInUse_congr hd, hsame]
      exact ⟨hcount, hmax, hvacant⟩
    · rwa [State.transitCount, descsInUse_congr hd]
  cases h with
  | entries pool _ _ entry =>
    refine of_entries (congrArg Pool.descs pool) fun k => ⟨(entry k).held, fun hv => ?_⟩
    obtain h | ⟨-, h⟩ := (entry k).state
    · exact (hheld k).2.2 (h ▸ hv)
    · exact h
  | @rewritten d r r' desc stream =>
    have hcount (x : Stream) : streamCount (s.setDesc d (some r')) x = streamCount s x := by
      rw [streamCount_of_perm (descsInUse_setDesc_perm s d (some r')), streamCount_of_perm (descsInUse_perm s d), desc]
      simp [List.filter_cons, stream, apply_ite List.length]
    refine ⟨fun k => ?_, ?_⟩
    · rw [descsOfSlot_eq, hcount]
      exact hheld k
    · rw [transitCount_eq, hcount]
      exact htransit
  | @freed d r desc =>
    have hcount (x : Stream) :
        streamCount s x = streamCount (giveBack d r s) x + if r.stream = x then 1 else 0 := by
      rw [streamCount_of_perm (descsInUse_giveBack d r s), streamCount_of_perm (descsInUse_perm s d), desc]
      by_cases hx : r.stream = x <;> simp [hx]
    refine ⟨fun k => ?_, ?_⟩
    · have hk := hcount (.slot k)
      obtain ⟨hsame, hmax, hvacant⟩ := hheld k
      rw [descsOfSlot_eq] at hsame ⊢
      rw [entry_giveBack]
      simp only
      split_ifs at hk ⊢ <;> grind
    · have hk := hcount .transit
      rw [transitCount_eq] at htransit ⊢
      omega
  | @reserved d f desc room =>
    have hcount (x : Stream) :
        streamCount (makeReservation f d s) x = streamCount s x + if f.stream = x then 1 else 0 := by
      rw [streamCount_of_perm (descsInUse_makeReservation f d s), streamCount_of_perm (descsInUse_perm s d), desc]
      by_cases hx : f.stream = x <;> simp [reservedDescriptor, hx]
    refine ⟨fun k => ?_, ?_⟩
    · have hk := hcount (.slot k)
      obtain ⟨hsame, hmax, hvacant⟩ := hheld k
      rw [descsOfSlot_eq] at hsame ⊢
      rw [entry_makeReservation]
      simp only
      split_ifs at hk ⊢ with hf
      · simp only [HasRoom, hf] at room
        obtain ⟨hused, hroom⟩ := room
        exact ⟨by omega, by omega, fun hv => absurd hv hused⟩
      · exact ⟨by omega, hmax, hvacant⟩
    · have hk := hcount .transit
      rw [transitCount_eq] at htransit ⊢
      split_ifs at hk with hf
      · simp only [HasRoom, hf, transitCount_eq] at room
        omega
      · omega
  | committed =>
    refine of_entries (congrArg Pool.descs (applyChanges_pool s)) fun k => ?_
    exact foldl_applyChange_keeps
      (P := fun e => e.held = (s.entry k).held ∧ (e.state = .vacant → (s.entry k).held = 0))
      (fun engaged e c ⟨hsame, _⟩ => ⟨(changedEntry_held engaged e c).trans hsame,
        fun hv => hsame ▸ changedEntry_vacant hv⟩) ⟨rfl, (hheld k).2.2⟩ _
  | staged => exact ⟨hheld, htransit⟩
  | reset u =>
    have hnone := descsInUse_of_reset (hardReset_pool u)
    simp [HeldLaw, hardReset_entry, Entry.reset, descsOfSlot, State.transitCount, hnone]

end Sys2Proof.Machine

/-! SUPPORT. The ledger moves that each operation of the gate makes, block by block. -/

namespace Sys2Proof.Machine

open Sys2Proof

/-! ### What moves nothing -/

/-- What the laws read of the state: the Stream Table, the pools, the changes staged and their owner. -/
def ledger (s : State) : Vector Entry 64 × Pool × List Change × Option Byte :=
  (s.table, s.pool, s.stage.changes, s.stage.owner)

@[simp] theorem ledger_setLane (s : State) (l : Lane) (u : LaneUnit) : ledger (s.setLane l u) = ledger s := by
  simp [ledger]
@[simp] theorem ledger_count (s : State) (f : GlobalCounters → GlobalCounters) : ledger (s.count f) = ledger s := rfl
@[simp] theorem ledger_modifyContext (s : State) (f : Context → Context) :
    ledger (s.modifyContext f) = ledger s := rfl
@[simp] theorem ledger_raise (cls : NoticeClass) (slot : Option Slot) (tag : Tag) (detail : BitVec 32) (s : State) :
    ledger (raise cls slot tag detail s) = ledger s := by simp [ledger]
@[simp] theorem ledger_settle (s : State) : ledger (settle s) = ledger s := by simp [ledger]
@[simp] theorem ledger_elapse (n : Nat) (s : State) : ledger (elapse n s) = ledger s := rfl
@[simp] theorem ledger_compareRetries (s : State) : ledger (compareRetries s) = ledger s := rfl
@[simp] theorem ledger_discardReplies (s : State) : ledger (discardReplies s) = ledger s := rfl
@[simp] theorem ledger_enterWork (x : AgentState) (s : State) : ledger (enterWork x s) = ledger s := rfl
@[simp] theorem ledger_noticeSendEnd (sequence : BitVec 16) (s : State) :
    ledger (noticeSendEnd sequence s) = ledger s := by simp [ledger]
@[simp] theorem ledger_closeLane (l : Lane) (s : State) : ledger (closeLane l s) = ledger s := by simp [ledger]
@[simp] theorem ledger_restartStaging (m : Byte) (s : State) : ledger (restartStaging m s) = ledger s := by
  simp [ledger]
@[simp] theorem ledger_holdoverExpired (s : State) : ledger (holdoverExpired s) = ledger s := by simp [ledger]
@[simp] theorem ledger_beginSend (l : Lane) (item : SendItem) (frame : List Byte) (s : State) :
    ledger (beginSend l item frame s) = ledger s := ledger_setLane ..

@[simp] theorem ledger_endHold (s t : State) : ledger (endHold s t) = ledger t := by
  unfold endHold
  split <;> simp

@[simp] theorem ledger_createReply (r : Reply) (s : State) : ledger (createReply r s) = ledger s := by
  unfold createReply
  simp only
  split
  · exact (ledger_count ..).trans (ledger_settle s)
  · exact ledger_settle s

@[simp] theorem ledger_intake (q : RequestRecord) (s : State) : ledger (intake q s) = ledger s := by
  unfold intake
  split_ifs
  · rfl
  · exact ledger_createReply ..
  · rfl

@[simp] theorem ledger_waitAsserted (l : Lane) (s : State) : ledger (waitAsserted l s) = ledger s := by
  unfold waitAsserted
  split <;> simp

@[simp] theorem ledger_waitReleased (l : Lane) (s : State) : ledger (waitReleased l s) = ledger s := by
  unfold waitReleased
  split <;> simp

@[simp] theorem ledger_offerTrap (c : Context) (bytes : List Byte) (s : State) :
    ledger (offerTrap c bytes s) = ledger s := by
  unfold offerTrap
  split <;> rfl

@[simp] theorem ledger_copyByte (b : Byte) (s : State) : ledger (copyByte b s) = ledger s := by
  unfold copyByte
  split <;> rfl

@[simp] theorem ledger_endCapture (c : Context) (outcome : EndOutcome) (received : Nat) (s : State) :
    ledger (endCapture c outcome received s) = ledger s := by
  unfold endCapture
  split
  · split
    · rfl
    · simp only
      split
      · exact ledger_raise ..
      · rfl
  · rfl

@[simp] theorem ledger_noticeVerdict (k : Slot) (tag : Tag) (n : BitVec 16) (before : Option (BitVec 16))
    (v : Verdict) (s : State) : ledger (noticeVerdict k tag n before v s) = ledger s := by
  cases v with
  | gap d => exact ledger_raise ..
  | restart => exact ledger_raise ..
  | _ => rfl

@[simp] theorem ledger_headComes (l : Lane) (s : State) : ledger (headComes l s) = ledger s := by
  unfold headComes
  split
  · rfl
  · split
    · rfl
    · exact ledger_elapse ..

@[simp] theorem ledger_slewIntervalRunsOut (s : State) : ledger (slewIntervalRunsOut s) = ledger s := by
  unfold slewIntervalRunsOut
  split <;> simp

@[simp] theorem ledger_holdoverTimerRunsOut (s : State) : ledger (holdoverTimerRunsOut s) = ledger s := by
  unfold holdoverTimerRunsOut
  split <;> simp

@[simp] theorem ledger_retryTimerRunsOut (sequence : BitVec 16) (s : State) :
    ledger (retryTimerRunsOut sequence s) = ledger s := by
  unfold retryTimerRunsOut
  split <;> rfl

@[simp] theorem ledger_idleTimerRunsOut (s : State) : ledger (idleTimerRunsOut s) = ledger s := by
  unfold idleTimerRunsOut
  split <;> rfl

/-! ### Single moves -/

theorem LedgerMoves.of_ledger {s t : State} (h : ledger t = ledger s) : LedgerMoves s t := by
  simp only [ledger, Prod.mk.injEq] at h
  obtain ⟨htable, hpool, hchanges, howner⟩ := h
  exact .single (.entries hpool hchanges howner fun k => by
    rw [State.entry, State.entry, htable]
    exact .refl _)

/-- Work that moves nothing, done after other work. -/
theorem LedgerMoves.then_ledger {s t u : State} (h : LedgerMoves s t) (hu : ledger u = ledger t) : LedgerMoves s u :=
  h.trans (LedgerMoves.of_ledger hu)

/-- Work done after work that moves nothing. -/
theorem LedgerMoves.after_ledger {s t u : State} (h : LedgerMoves t u) (ht : ledger t = ledger s) : LedgerMoves s u :=
  (LedgerMoves.of_ledger ht).trans h

/-- One entry changed in what the laws leave open. -/
theorem LedgerMoves.of_entry {s : State} {k : Slot} {e : Entry} (h : EntryKept (s.entry k) e) :
    LedgerMoves s (s.setEntry k e) :=
  .single (.entries rfl rfl rfl fun j => by
    by_cases hj : j = k
    · subst hj
      simpa using h
    · rw [State.entry_setEntry_ne s e hj]
      exact .refl _)

/-! ### Entries changed in what the laws leave open -/

theorem EntryKept.of_vacant {e : Entry} (h : e.held = 0) : EntryKept e { e with state := .vacant } :=
  ⟨rfl, rfl, .inr ⟨rfl, h⟩, id⟩

theorem entryKept_laneLost (l : Lane) (e : Entry) : EntryKept e (e.laneLost l) := by
  cases l <;> exact ⟨rfl, rfl, .inl rfl, id⟩

theorem entryKept_clearDiscontinuity (l : Lane) (e : Entry) : EntryKept e (e.clearDiscontinuity l) := by
  cases l <;> exact ⟨rfl, rfl, .inl rfl, id⟩

/-- A verdict raises gap-frames or restarts, which are no part of the sum (R38). -/
theorem countsAddUp_countVerdict (v : Verdict) {c : SlotCounters} (h : CountsAddUp c) :
    CountsAddUp (countVerdict v c) := by
  cases v <;> exact h

/-- Received rises by one with exactly one counter of the sum (R37, R38). -/
theorem countsAddUp_countFate (f : Fate) {c : SlotCounters} (h : CountsAddUp c) : CountsAddUp (countFate f c) := by
  rw [CountsAddUp] at h
  cases f <;> (simp only [CountsAddUp, countFate, h]; ring)

theorem countsAddUp_zero : CountsAddUp .zero := by simp [CountsAddUp, SlotCounters.zero]

/-! ### Retirement, and storage given back -/

theorem ledgerMoves_vacate {k : Slot} {s : State} (h : (s.entry k).held = 0) : LedgerMoves s (vacate k s) :=
  (LedgerMoves.of_entry (.of_vacant h)).then_ledger (ledger_raise ..)

theorem ledgerMoves_retireCheck (k : Slot) (s : State) : LedgerMoves s (retireCheck k s) := by
  unfold retireCheck
  split
  · rename_i h
    exact ledgerMoves_vacate h.2.1
  · exact .refl _

/-- A descriptor freed is given back, and may end its slot's retirement. -/
theorem freeDesc_of_desc {d : DescNo} {s : State} {r : Descriptor} (h : s.desc d = some r) :
    freeDesc d s =
      match r.stream with
      | .slot k => retireCheck k (giveBack d r s)
      | .transit => giveBack d r s := by
  unfold freeDesc
  simp only [h, giveBack, State.modifyHeld, returnCells]
  cases r.stream <;> rfl

theorem freeDesc_of_free {d : DescNo} {s : State} (h : s.desc d = none) : freeDesc d s = s := by
  simp only [freeDesc, h]

theorem ledgerMoves_freeDesc (d : DescNo) (s : State) : LedgerMoves s (freeDesc d s) := by
  cases h : s.desc d with
  | none =>
    rw [freeDesc_of_free h]
    exact .refl s
  | some r =>
    have hback : LedgerMoves s (giveBack d r s) := .single (.freed h)
    rw [freeDesc_of_desc h]
    split
    · exact hback.trans (ledgerMoves_retireCheck ..)
    · exact hback

theorem ledgerMoves_leaveLane (l : Lane) (d : DescNo) (s : State) : LedgerMoves s (leaveLane l d s) := by
  unfold leaveLane
  split
  · exact .refl _
  · rename_i r h
    split
    · exact ledgerMoves_freeDesc d s
    · exact .single (.rewritten h rfl rfl)

theorem ledgerMoves_dropLane (l : Lane) (d : DescNo) (s : State) : LedgerMoves s (dropLane l d s) := by
  unfold dropLane
  split
  · exact .refl _
  · split
    · exact (LedgerMoves.of_entry (entryKept_laneLost ..)).trans (ledgerMoves_leaveLane ..)
    · exact (ledgerMoves_leaveLane ..).after_ledger (ledger_count ..)

/-- Work done for each of a list, one after another. -/
theorem ledgerMoves_foldl {α : Type} {f : State → α → State} (hf : ∀ s x, LedgerMoves s (f s x)) (xs : List α)
    (s : State) : LedgerMoves s (xs.foldl f s) := by
  induction xs generalizing s with
  | nil => exact .refl _
  | cons x xs ih => exact (hf s x).trans (ih _)

/-! ### Lanes -/

theorem ledgerMoves_enterBlocked (l : Lane) (cause : BlockCause) (s : State) :
    LedgerMoves s (enterBlocked l cause s) := by
  have hdrops := ledgerMoves_foldl (fun t d => ledgerMoves_dropLane l d t) (laneQueues l s) (closeLane l s)
  have hall := hdrops.after_ledger (ledger_closeLane l s)
  unfold enterBlocked
  simp only
  split
  · exact hall.then_ledger (by rw [ledger_discardReplies, ledger_raise])
  · exact hall.then_ledger (ledger_raise ..)

theorem ledgerMoves_startSource (l : Lane) (x : Source) (s : State) : LedgerMoves s (startSource l x s) := by
  cases x with
  | reply r => exact .of_ledger (ledger_beginSend ..)
  | notice n => exact .of_ledger (ledger_beginSend ..)
  | transit d =>
    simp only [startSource, startTransit]
    split
    · exact .refl _
    · exact .of_ledger (ledger_beginSend ..)
  | data d =>
    simp only [startSource, startData]
    split
    · exact .refl _
    · have hqueue := ledger_setLane s l { s.lane l with releaseQueue := (s.lane l).releaseQueue.tail }
      split
      · exact ((LedgerMoves.of_entry (entryKept_clearDiscontinuity ..)).after_ledger hqueue).then_ledger
          (ledger_beginSend ..)
      · exact .of_ledger ((ledger_beginSend ..).trans hqueue)

theorem ledgerMoves_sendStart (l : Lane) (s : State) : LedgerMoves s (sendStart l s) := by
  unfold sendStart
  split
  · split
    · exact .refl _
    · exact ledgerMoves_startSource ..
  · exact .refl _

theorem ledgerMoves_finishItem (l : Lane) (item : SendItem) (s : State) : LedgerMoves s (finishItem l item s) := by
  cases item with
  | reply r => exact .refl _
  | notice sequence => exact .of_ledger (ledger_noticeSendEnd ..)
  | descriptor d =>
    simp only [finishItem]
    split
    · exact .refl _
    · split
      · exact ledgerMoves_leaveLane ..
      · exact (ledgerMoves_leaveLane ..).after_ledger (ledger_count ..)

theorem ledgerMoves_sendEnd (l : Lane) (s : State) : LedgerMoves s (sendEnd l s) := by
  unfold sendEnd
  split
  · exact .refl _
  · rename_i snd _
    have hitem := (ledgerMoves_finishItem l snd.item (s.setLane l { s.lane l with sending := none })).after_ledger
      (ledger_setLane ..)
    refine hitem.trans ?_
    unfold afterSend
    split
    · exact ledgerMoves_enterBlocked ..
    · exact .of_ledger (ledger_setLane ..)

theorem ledgerMoves_compareStall (l : Lane) (s : State) : LedgerMoves s (compareStall l s) := by
  unfold compareStall
  split
  · split
    · exact ledgerMoves_enterBlocked ..
    · exact .refl _
  · exact .refl _

theorem ledgerMoves_blockLane (l : Lane) (s : State) : LedgerMoves s (blockLane l s) := by
  unfold blockLane
  split
  · exact ledgerMoves_enterBlocked ..
  · exact ledgerMoves_enterBlocked ..
  · exact .of_ledger (ledger_setLane ..)
  · exact .refl _
  · exact .refl _

/-! ### Admission -/

theorem freeDescriptor_free {s : State} {d : DescNo} (h : freeDescriptor s = some d) : s.desc d = none := by
  simpa using List.find?_some h

/-- A reservation of a FREE descriptor for a stream that has room. -/
theorem ledgerMoves_makeReservation {s : State} {d : DescNo} {f : ReservationFor} (hd : freeDescriptor s = some d)
    (room : HasRoom s f.stream) : LedgerMoves s (makeReservation f d s) :=
  .single (.reserved (freeDescriptor_free hd) room)

theorem ledgerMoves_skipBlocked (k : Slot) (lanes : LaneSet) (l : Lane) (s : State) :
    LedgerMoves s (skipBlocked k lanes l s) := by
  unfold skipBlocked
  split
  · exact .of_entry (entryKept_laneLost ..)
  · exact .refl _

/-- A lane left out leaves the state of every entry. -/
@[simp] theorem skipBlocked_entry_state (k : Slot) (lanes : LaneSet) (l : Lane) (s : State) (j : Slot) :
    ((skipBlocked k lanes l s).entry j).state = (s.entry j).state := by
  unfold skipBlocked
  split
  · by_cases hj : j = k
    · subst hj
      cases l <;> simp [Entry.laneLost]
    · rw [State.entry_modifyEntry_ne s _ hj]
  · rfl

section
variable {cl : Classified} {w : HeaderWork} (data : List Byte) (release : Time) (lanes : LaneSet)

theorem ledgerMoves_admitPool (hused : (w.state.entry cl.slot).state ≠ .vacant)
    (hroom : (w.state.entry cl.slot).held < 255) :
    LedgerMoves w.state (admitPool cl release lanes data w).state := by
  unfold admitPool
  simp only
  split
  · rename_i d _ hd
    have hmake := ledgerMoves_makeReservation
      (f :=
        { stream := .slot cl.slot
          arrival := w.context.arrival
          release := release
          remaining := lanes
          length := storedLength cl.config w.context
          stampFlags := w.context.stampFlags
          data := data })
      hd ⟨hused, hroom⟩
    refine hmake.then_ledger ?_
    split <;> rfl
  · exact .of_ledger (ledger_raise ..)

/-- The hold quota is a byte, so that a stream within it has room. -/
theorem ledgerMoves_admitQuota (hused : (w.state.entry cl.slot).state ≠ .vacant) :
    LedgerMoves w.state (admitQuota cl release lanes data w).state := by
  unfold admitQuota
  simp only
  split
  · exact .of_ledger (ledger_raise ..)
  · rename_i hquota
    exact ledgerMoves_admitPool data release lanes hused (by have := cl.config.holdQuota.isLt; omega)

theorem ledgerMoves_admitLanes (hused : (w.state.entry cl.slot).state ≠ .vacant) :
    LedgerMoves w.state (admitLanes cl release data w).state := by
  have hskip := (ledgerMoves_skipBlocked cl.slot cl.config.lanes .a w.state).trans
    (ledgerMoves_skipBlocked cl.slot cl.config.lanes .b _)
  have hstate := (skipBlocked_entry_state cl.slot cl.config.lanes .b
    (skipBlocked cl.slot cl.config.lanes .a w.state) cl.slot).trans (skipBlocked_entry_state ..)
  unfold admitLanes
  simp only
  split
  · exact hskip
  · exact hskip.trans (ledgerMoves_admitQuota
      (w := ⟨skipBlocked cl.slot cl.config.lanes .b (skipBlocked cl.slot cl.config.lanes .a w.state), w.context⟩)
      data release _ (hstate ▸ hused))

/-- Admission of a frame whose slot is in use. -/
theorem ledgerMoves_admitStream (hused : (w.state.entry cl.slot).state ≠ .vacant) :
    LedgerMoves w.state (admitStream cl data w).state := by
  unfold admitStream
  split_ifs
  · exact .refl _
  · exact .refl _
  · unfold admitRelease
    simp only
    split
    · exact .refl _
    · exact .refl _
    · rename_i t late unaligned _
      exact ledgerMoves_admitLanes
        (w :=
          ⟨w.state,
            { w.context with
              stampFlags := releaseFlags w.context.stampFlags w.state.clock.state late unaligned }⟩)
        data t hused

theorem ledgerMoves_admitTransit : LedgerMoves w.state (admitTransit data w).state := by
  unfold admitTransit
  simp only
  split
  · rename_i d h hd
    simp only [Bool.and_eq_true, decide_eq_true_eq] at h
    obtain ⟨⟨-, hroom⟩, -⟩ := h
    exact ledgerMoves_makeReservation
      (f :=
        { stream := .transit
          arrival := w.context.arrival
          release := w.context.arrival
          remaining := ⟨true, false⟩
          length := w.context.declared
          stampFlags := noStampFlags
          data := data })
      hd hroom
  · exact .of_ledger (ledger_count ..)

end

theorem ledgerMoves_storeByte (c : Context) (received : Nat) (b : Byte) (s : State) :
    LedgerMoves s (storeByte c received b s) := by
  unfold storeByte
  split
  · exact .refl _
  · split
    · exact .refl _
    · rename_i h
      split
      · exact .single (.rewritten h rfl rfl)
      · exact .refl _

theorem ledgerMoves_completeOnLane (lanes : LaneSet) (d : DescNo) (s : State) (l : Lane) :
    LedgerMoves s (completeOnLane lanes d s l) := by
  unfold completeOnLane
  split_ifs
  · exact ledgerMoves_dropLane ..
  · exact .of_ledger (ledger_setLane ..)
  · exact .refl _

theorem ledgerMoves_completeStream (cl : Classified) (flags : Byte) (errored : Bool) (d : DescNo) (s : State) :
    LedgerMoves s (completeStream cl flags errored d s) := by
  unfold completeStream
  split
  · exact .refl _
  · rename_i r h
    have hheld : LedgerMoves s
        (s.setDesc d
          (some (completedStream s.clock.time s.gateNumber (willStamp cl.config flags) errored r))) :=
      .single (.rewritten h rfl rfl)
    exact hheld.trans (ledgerMoves_foldl (ledgerMoves_completeOnLane r.remaining d) _ _)

theorem ledgerMoves_completeTransit (d : DescNo) (s : State) : LedgerMoves s (completeTransit d s) := by
  unfold completeTransit
  split
  · exact .refl _
  · rename_i r h
    have hheld : LedgerMoves s
        (s.setDesc d
          (some { r with condition := .held, ready := some s.clock.time, frameLength := r.data.length })) :=
      .single (.rewritten h rfl rfl)
    simp only
    split
    · exact hheld.trans (ledgerMoves_dropLane ..)
    · exact hheld.then_ledger rfl

theorem ledgerMoves_settleReservation (c : Context) (outcome : EndOutcome) (s : State) :
    LedgerMoves s (settleReservation c outcome s) := by
  unfold settleReservation
  split
  · unfold endReservation
    split
    · exact ledgerMoves_completeStream ..
    · split
      · exact ledgerMoves_freeDesc ..
      · exact ledgerMoves_completeStream ..
    · exact ledgerMoves_freeDesc ..
    · exact ledgerMoves_freeDesc ..
    · exact ledgerMoves_completeTransit ..
    · exact ledgerMoves_completeTransit ..
    · exact ledgerMoves_freeDesc ..
    · exact ledgerMoves_freeDesc ..
  · exact .refl _

/-! ### FLUSH -/

theorem ledgerMoves_flushReservation (s : State) : LedgerMoves s (flushReservation s) := by
  unfold flushReservation
  split
  · exact .of_ledger (ledger_modifyContext ..)
  · refine LedgerMoves.then_ledger ?_ (ledger_modifyContext ..)
    split
    · exact (ledgerMoves_freeDesc ..).after_ledger (ledger_count ..)
    · exact ledgerMoves_freeDesc ..

theorem ledgerMoves_flushDescriptor (s : State) (d : DescNo) : LedgerMoves s (flushDescriptor s d) := by
  unfold flushDescriptor
  split
  · exact .refl _
  · split
    · refine ledgerMoves_foldl (fun t l => ?_) _ s
      split
      · exact ledgerMoves_dropLane ..
      · exact .refl _
    · exact .refl _

/-- One place of a table changed place by place. -/
theorem clearContinuity_entry (s : State) (k : Slot) :
    (clearContinuity s).entry k = { s.entry k with expected := none, behindRun := 0 } := by
  simp [clearContinuity, State.entry, Vector.get_eq_getElem]

theorem ledgerMoves_clearContinuity (s : State) : LedgerMoves s (clearContinuity s) :=
  .single (.entries rfl rfl rfl fun k => by
    rw [clearContinuity_entry]
    exact ⟨rfl, rfl, .inl rfl, id⟩)

theorem ledgerMoves_flushDatapath (s : State) : LedgerMoves s (flushDatapath s) := by
  have hempty : LedgerMoves s (emptyQueues (flushReservation s)) := (ledgerMoves_flushReservation s).then_ledger rfl
  exact (hempty.trans (ledgerMoves_foldl ledgerMoves_flushDescriptor allDescs _)).trans
    (ledgerMoves_clearContinuity _)

/-! ### The Change Stage -/

theorem ledgerMoves_stagingExpired (s : State) : LedgerMoves s (stagingExpired s) :=
  LedgerMoves.then_ledger
    (.single (.staged (st := emptyStage) (fun _ => listLaw_emptyStage.1) (fun _ => listLaw_emptyStage.2)))
    (ledger_raise ..)

theorem ledgerMoves_commitSignal (s : State) : LedgerMoves s (commitSignal s) := by
  unfold commitSignal
  split
  · rename_i hvalid
    exact LedgerMoves.then_ledger (.single (.committed hvalid)) (ledger_raise ..)
  · exact .of_ledger (ledger_raise ..)

theorem ledgerMoves_watchCommit (s : State) : LedgerMoves s (watchCommit s) := by
  unfold watchCommit
  split
  · exact .refl _
  · split
    · exact ledgerMoves_commitSignal s
    · exact .refl _

theorem slot_stageInto (cs : List Change) (c : Change) :
    (stageInto cs c).map Change.slot =
      if (changeFor cs c.slot).isSome then cs.map Change.slot else cs.map Change.slot ++ [c.slot] := by
  unfold stageInto
  split
  · rw [List.map_map]
    refine List.map_congr_left fun x _ => ?_
    simp only [Function.comp_apply]
    split <;> simp_all
  · simp

/-- A change that the list has room for keeps the list's law (R115, R117, R120). -/
theorem listLaw_stageChange {m : Byte} {c : Change} {s : State}
    (hroom : (changeFor s.stage.changes c.slot).isSome ∨ s.stage.changes.length < 16) (h : ListLaw s.stage) :
    ListLaw (stageChange m c s).stage := by
  obtain ⟨hlength, hslots, howner⟩ := h
  have hmap := slot_stageInto s.stage.changes c
  have hlen := congrArg List.length hmap
  rw [List.length_map] at hlen
  simp only [ListLaw, stageChange, hmap, hlen]
  refine ⟨?_, ?_, ?_⟩
  · split <;> simp_all
  · split
    · exact hslots
    · rename_i hnone
      simp only [Option.isSome_iff_ne_none, ne_eq, not_not, changeFor, List.find?_eq_none, decide_eq_true_eq] at hnone
      simpa [List.nodup_append, hslots] using hnone
  · have hne : stageInto s.stage.changes c ≠ [] := by
      rw [← List.length_pos_iff, hlen]
      split
      · rename_i hsome
        obtain ⟨x, hx⟩ := Option.isSome_iff_exists.1 hsome
        simpa using List.length_pos_of_mem (changeFor_some hx).1
      · simp
    cases hc : s.stage.changes with
    | nil => simpa [hc] using hne
    | cons x xs => simpa [hc, howner] using hc ▸ hne

theorem stagedInRange_stageChange {m : Byte} {c : Change} {s : State}
    (hc : ∀ k into config reset, c = .setEntry k into config reset → ConfigInRange config)
    (h : StagedInRange s.stage) : StagedInRange (stageChange m c s).stage := by
  intro x hx
  have hmem : x ∈ s.stage.changes ∨ x = c := by
    simp only [stageChange, stageInto] at hx
    split at hx
    · obtain ⟨y, hy, rfl⟩ := List.mem_map.1 hx
      split
      · exact .inr rfl
      · exact .inl hy
    · simpa using hx
  obtain hx | rfl := hmem
  · exact h x hx
  · exact hc

theorem ledgerMoves_stageAccepted (m : Byte) {c : Change} (s : State)
    (hc : ∀ k into config reset, c = .setEntry k into config reset → ConfigInRange config) :
    LedgerMoves s (stageAccepted m c s).state := by
  unfold stageAccepted
  split
  · rename_i hroom
    exact .single (.staged (listLaw_stageChange (m := m) hroom) (stagedInRange_stageChange (m := m) hc))
  · exact .refl _

/-- The operands of a STAGE-ENTRY spell a change in range (R120). -/
theorem changeOf_inRange {e : EntryOperands} {c : Change} (h : changeOf e = some c) (k : Slot) (into : CommitInto)
    (config : EntryConfig) (reset : Bool) (hc : c = .setEntry k into config reset) : ConfigInRange config := by
  subst hc
  simp only [changeOf, Option.bind_eq_bind, Option.bind_eq_some_iff] at h
  obtain ⟨_, -, _, -, _, -, _, -, _, -, _, -, _, -, _, -, _, -, h⟩ := h
  split_ifs at h with hrange
  simp only [Option.some.injEq, Change.setEntry.injEq] at h
  obtain ⟨-, -, rfl, -⟩ := h
  exact hrange

/-- The list without a slot's change keeps the law, and an emptied one has no owner (R115, R122). -/
theorem ledgerMoves_unstaged (k : Slot) (s : State) : LedgerMoves s { s with stage := unstaged k s.stage } := by
  refine .single (.staged (fun ⟨hlength, hslots, howner⟩ => ?_) fun hrange => ?_)
  · unfold unstaged
    simp only
    split
    · simp [ListLaw]
    · rename_i hrest
      refine ⟨(List.length_filter_le ..).trans hlength, hslots.sublist (List.filter_sublist.map _), ?_⟩
      have hne : s.stage.changes ≠ [] := fun h => hrest (by simp [h])
      simp only [howner, hne, ne_eq, not_false_eq_true, true_iff]
      simpa using hrest
  · unfold unstaged
    simp only
    split
    · simp [StagedInRange]
    · exact fun c hc => hrange c (List.mem_filter.1 hc).1

/-! ### The Gate Clock -/

theorem ledgerMoves_useTimeFrame (master : Time) (tag : Tag) (arrival : Time) (s : State) :
    LedgerMoves s (useTimeFrame master tag arrival s) := by
  unfold useTimeFrame
  refine (ledgerMoves_watchCommit _).after_ledger ?_
  split_ifs <;> simp [ledger]

theorem ledgerMoves_setTime (value : Time) (s : State) : LedgerMoves s (setTime value s) := by
  unfold setTime
  refine (ledgerMoves_watchCommit _).after_ledger ?_
  split_ifs <;> simp [ledger]

/-! ### Requests -/

@[simp] theorem ledger_setReplyLane (l : Lane) (s : State) : ledger (setReplyLane l s) = ledger s := by
  simp only [setReplyLane]
  split <;> rfl

@[simp] theorem ledger_setNoticeDestination (d : Byte) (s : State) :
    ledger (setNoticeDestination d s) = ledger s := by
  simp only [setNoticeDestination]
  split <;> rfl

@[simp] theorem ledger_setRetryInterval (v : Nat) (s : State) : ledger (setRetryInterval v s) = ledger s := by
  simp only [setRetryInterval]
  split <;> rfl

@[simp] theorem ledger_setHoldoverTimeout (v : Nat) (s : State) : ledger (setHoldoverTimeout v s) = ledger s := by
  simp only [setHoldoverTimeout]
  split
  · split
    · exact ledger_holdoverExpired ..
    · rfl
  · rfl

theorem ledgerMoves_setStallLimit (v : Nat) (s : State) : LedgerMoves s (setStallLimit v s) :=
  LedgerMoves.after_ledger ((ledgerMoves_compareStall .a _).trans (ledgerMoves_compareStall .b _)) rfl

theorem ledgerMoves_setStagingTimeout (v : Nat) (s : State) : LedgerMoves s (setStagingTimeout v s) := by
  simp only [setStagingTimeout]
  split
  · split
    · exact (ledgerMoves_stagingExpired _).after_ledger rfl
    · exact .of_ledger rfl
  · exact .of_ledger rfl

/-- Of two ways that an operation can go, both move the ledger. -/
theorem LedgerMoves.ite {p : Prop} [Decidable p] {s t u : State} (ht : LedgerMoves s t) (hu : LedgerMoves s u) :
    LedgerMoves s (if p then t else u) := by
  split
  · exact ht
  · exact hu

/-- The parameters one after another, in the order of section 8.6. -/
theorem ledgerMoves_applyParam (id : Byte) (v : Nat) (s : State) : LedgerMoves s (applyParam id v s) :=
  .ite (.of_ledger (ledger_setReplyLane ..)) <|
  .ite (.of_ledger (ledger_endHold ..)) <|
  .ite (.of_ledger (ledger_setNoticeDestination ..)) <|
  .ite (.of_ledger rfl) <|
  .ite (.of_ledger (ledger_setRetryInterval ..)) <|
  .ite (.of_ledger rfl) <|
  .ite (.of_ledger rfl) <|
  .ite (.of_ledger rfl) <|
  .ite (.of_ledger rfl) <|
  .ite (.of_ledger rfl) <|
  .ite (.of_ledger (ledger_setHoldoverTimeout ..)) <|
  .ite (ledgerMoves_setStallLimit v s) <|
  .ite (ledgerMoves_setStagingTimeout v s) (.refl s)

theorem ledgerMoves_readCounters (scope slot clear : Byte) (s : State) :
    LedgerMoves s (doReadCounters scope slot clear s).state := by
  unfold doReadCounters
  split
  · unfold doReadSlotCounters
    split
    · exact .refl s
    · simp only
      split
      · exact .of_entry ⟨rfl, rfl, .inl rfl, fun _ => countsAddUp_zero⟩
      · exact .refl s
  · simp only [doReadGlobalCounters]
    split
    · exact .of_ledger rfl
    · exact .refl s
  · exact .refl s

/-- Staging requests go by the checks of R120 and R121. -/
theorem ledgerMoves_stageEntry (m : Byte) (e : EntryOperands) (s : State) :
    LedgerMoves s (doStageEntry m e s).state := by
  unfold doStageEntry
  split_ifs
  · exact .refl s
  · exact .refl s
  · split
    · exact .refl s
    · rename_i hc
      exact ledgerMoves_stageAccepted m s (changeOf_inRange hc)

theorem ledgerMoves_stageRetire (m slot : Byte) (s : State) : LedgerMoves s (doStageRetire m slot s).state := by
  unfold doStageRetire
  split_ifs
  · exact .refl s
  · exact .refl s
  · split
    · exact .refl s
    · exact ledgerMoves_stageAccepted m s fun _ _ _ _ h => by cases h

theorem ledgerMoves_unstage (m slot : Byte) (s : State) : LedgerMoves s (doUnstage m slot s).state := by
  unfold doUnstage
  split_ifs
  · exact .refl s
  · exact .refl s
  · split
    · exact .refl s
    · split
      · exact ledgerMoves_unstaged ..
      · exact .refl s

theorem ledgerMoves_commit (m : Byte) (s : State) : LedgerMoves s (doCommit m s).state := by
  unfold doCommit
  split_ifs
  · exact .refl s
  · exact .refl s
  · exact .refl s
  · split
    · exact .refl s
    · exact .single (.committed ‹_›)

/-- What a request's own rule moves. -/
theorem ledgerMoves_perform (m : Byte) (r : Request) (s : State) : LedgerMoves s (perform m r s).state := by
  cases r with
  | readStatus => exact .refl s
  | readEntry slot =>
    simp only [perform, doReadEntry]
    split <;> exact .refl s
  | findTag tag =>
    simp only [perform, doFindTag]
    split
    · exact .refl s
    · split <;> exact .refl s
  | readCounters scope slot clear => exact ledgerMoves_readCounters ..
  | readStaged index =>
    simp only [perform, doReadStaged]
    split <;> exact .refl s
  | readParam id =>
    simp only [perform, doReadParam]
    split <;> exact .refl s
  | readTime => exact .refl s
  | readTrap offset =>
    simp only [perform, doReadTrap]
    split
    · exact .refl s
    · exact .refl s
    · exact .refl s
    · split
      · exact .refl s
      · split_ifs
        · exact .of_ledger rfl
        · exact .refl s
        · exact .refl s
  | stageEntry e => exact ledgerMoves_stageEntry ..
  | stageRetire slot => exact ledgerMoves_stageRetire ..
  | unstage slot => exact ledgerMoves_unstage ..
  | discardStaged =>
    simp only [perform, doDiscardStaged]
    split_ifs
    · exact .refl s
    · exact .refl s
    · exact .refl s
    · exact .single (.staged (fun _ => listLaw_emptyStage.1) (fun _ => listLaw_emptyStage.2))
  | commit => exact ledgerMoves_commit ..
  | commitAt t =>
    simp only [perform, doCommitAt]
    split_ifs <;> exact .of_ledger rfl
  | cancelCommit =>
    simp only [perform, doCancelCommit]
    split_ifs
    · exact .refl s
    · exact .of_ledger rfl
    · exact .refl s
  | setParam id value =>
    simp only [perform, doSetParam]
    split
    · exact .refl s
    · split_ifs
      · exact .refl s
      · exact .refl s
      · exact ledgerMoves_applyParam ..
      · exact .refl s
  | timeSet value => exact ledgerMoves_setTime ..
  | laneBlock lane =>
    simp only [perform, doLaneBlock]
    split
    · exact .refl s
    · exact ledgerMoves_blockLane ..
  | laneResume lane =>
    simp only [perform, doLaneResume]
    split
    · exact .refl s
    · split_ifs
      · exact .refl s
      · exact .of_ledger (by simp [reopenLane])
      · exact .refl s
  | flush => exact ledgerMoves_flushDatapath s
  | restart => exact .refl s
  | armTrap o =>
    simp only [perform, doArmTrap]
    split
    · exact .refl s
    · exact .of_ledger rfl
  | disarmTrap => exact .of_ledger rfl
  | ackNotices n =>
    simp only [perform, doAckNotices]
    split
    · exact .of_ledger rfl
    · exact .refl s

theorem ledgerMoves_executeNew (q : RequestRecord) (s : State) : LedgerMoves s (executeNew q s) := by
  unfold executeNew
  split
  · exact .of_ledger ((ledger_enterWork ..).trans (ledger_createReply ..))
  · exact (ledgerMoves_perform ..).then_ledger ((ledger_enterWork ..).trans (ledger_createReply ..))

theorem ledgerMoves_execute (q : RequestRecord) (s : State) : LedgerMoves s (execute q s) := by
  have hs := ledger_restartStaging q.manager s
  simp only [execute]
  split
  · exact .of_ledger (((ledger_enterWork ..).trans (ledger_createReply ..)).trans hs)
  · split
    · exact .of_ledger (((ledger_enterWork ..).trans (ledger_createReply ..)).trans hs)
    · exact (ledgerMoves_executeNew ..).after_ledger hs

theorem ledgerMoves_restartCheck (s : State) : LedgerMoves s (restartCheck s) := by
  unfold restartCheck
  split
  · exact .single (.reset s)
  · exact .refl s

theorem ledgerMoves_agentRun (s : State) : LedgerMoves s (agentRun s) := by
  unfold agentRun
  split
  · exact .refl s
  · split
    · exact ((ledgerMoves_execute ..).trans (ledgerMoves_restartCheck _)).after_ledger rfl
    · exact .refl s

theorem ledgerMoves_takeRequest (m : Sender) (code : Byte) (operands : List Byte) (s : State) :
    LedgerMoves s (takeRequest m code operands s) :=
  (ledgerMoves_agentRun _).after_ledger (ledger_intake ..)

/-! ### Receptions -/

/-- The slot that the lookup finds is in use (R30). -/
theorem lookup_used {s : State} {tag : Tag} {k : Slot} (h : lookup s tag = some k) :
    (s.entry k).state ≠ .vacant := by
  have hfound := List.find?_some h
  simp only [Bool.and_eq_true, Bool.or_eq_true, decide_eq_true_eq] at hfound
  obtain ⟨h | h, -⟩ := hfound <;> simp [h]

/-- A verdict's notice leaves the entries. -/
@[simp] theorem noticeVerdict_entry (k : Slot) (tag : Tag) (n : BitVec 16) (before : Option (BitVec 16)) (v : Verdict)
    (s : State) (j : Slot) : (noticeVerdict k tag n before v s).entry j = s.entry j := by
  cases v with
  | gap d => exact raise_entry ..
  | restart => exact raise_entry ..
  | _ => rfl

/-- The judgement of a frame that the lookup has found a slot for. -/
def headerJudgement (k : Slot) (w : HeaderWork) : Judgement :=
  judge (w.state.entry k).config.continuity (w.state.entry k).expected (w.state.entry k).behindRun w.context.sequence

/-- The slot's entry once the frame has arrived and is judged. -/
def arrivedEntry (k : Slot) (w : HeaderWork) : Entry :=
  judgedEntry (headerJudgement k w) { w.state.entry k with lastArrival := some w.context.arrival }

/-- The work of the header event before Admission: the frame is judged and its verdict noticed. -/
def judgedHeader (k : Slot) (w : HeaderWork) : HeaderWork :=
  ⟨noticeVerdict k w.context.tag w.context.sequence (w.state.entry k).expected (headerJudgement k w).verdict
      (w.state.setEntry k (arrivedEntry k w)),
    { w.context with
      classified := some ⟨k, (w.state.entry k).state, (w.state.entry k).config⟩
      verdict := (headerJudgement k w).verdict
      stampFlags := verdictFlags (headerJudgement k w).verdict }⟩

theorem headerClassified_eq (k : Slot) (data : List Byte) (w : HeaderWork) :
    headerClassified k data w =
      admitStream ⟨k, (w.state.entry k).state, (w.state.entry k).config⟩ data (judgedHeader k w) := rfl

/-- Of its slot a judged frame changes the continuity fields, the last arrival time and the counts. -/
theorem entryKept_arrivedEntry (k : Slot) (w : HeaderWork) : EntryKept (w.state.entry k) (arrivedEntry k w) :=
  ⟨rfl, rfl, .inl rfl, countsAddUp_countVerdict _⟩

theorem ledgerMoves_headerClassified {k : Slot} (data : List Byte) {w : HeaderWork}
    (hused : (w.state.entry k).state ≠ .vacant) : LedgerMoves w.state (headerClassified k data w).state := by
  have hjudged : LedgerMoves w.state (judgedHeader k w).state :=
    (LedgerMoves.of_entry (entryKept_arrivedEntry k w)).then_ledger (ledger_noticeVerdict ..)
  have hstate : ((judgedHeader k w).state.entry k).state = (w.state.entry k).state := by
    rw [judgedHeader, noticeVerdict_entry, State.entry_setEntry_same]
    rfl
  rw [headerClassified_eq]
  exact hjudged.trans (ledgerMoves_admitStream data (by rwa [hstate]))

theorem ledgerMoves_headerDispatch (data : List Byte) (w : HeaderWork) :
    LedgerMoves w.state (headerDispatch data w).state := by
  unfold headerDispatch
  split
  · exact .of_ledger (ledger_count ..)
  · unfold headerStream
    split
    · exact ledgerMoves_headerClassified data (lookup_used ‹_›)
    · have hraised (cls : NoticeClass) (tag : Tag) (detail : BitVec 32) (f : GlobalCounters → GlobalCounters) :
          LedgerMoves w.state (raise cls none tag detail (w.state.count f)) := .of_ledger (by simp)
      simp only [headerUnknown]
      split
      · exact (hraised ..).trans (ledgerMoves_admitTransit (w := ⟨_, w.context⟩) data)
      · exact hraised ..
  · exact ledgerMoves_admitTransit data
  · exact ledgerMoves_admitTransit data
  · exact ledgerMoves_admitTransit data
  · exact .refl _
  · exact .of_ledger (ledger_count ..)

theorem ledgerMoves_headerEvent (bytes : List Byte) (s : State) : LedgerMoves s (headerEvent bytes s) := by
  unfold headerEvent
  split
  · exact .refl s
  · rename_i h _
    exact (ledgerMoves_headerDispatch bytes ⟨s, openContext s h⟩).then_ledger (ledger_offerTrap ..)

theorem ledgerMoves_receiveByte (b : Byte) (r : Reception) (s : State) : LedgerMoves s (receiveByte b r s) := by
  simp only [receiveByte]
  split
  · refine LedgerMoves.then_ledger ?_ (ledger_copyByte ..)
    exact (ledgerMoves_storeByte ..).after_ledger rfl
  · split
    · exact (ledgerMoves_headerEvent ..).after_ledger rfl
    · exact .of_ledger rfl

theorem ledgerMoves_countEnd (c : Context) (outcome : EndOutcome) (s : State) :
    LedgerMoves s (countEnd c outcome s) := by
  unfold countEnd
  split
  · exact .of_entry ⟨rfl, rfl, .inl rfl, countsAddUp_countFate _⟩
  · split
    · exact .of_ledger (ledger_count ..)
    · exact .refl s

theorem ledgerMoves_settleClock (c : Context) (outcome : EndOutcome) (bytes : List Byte) (s : State) :
    LedgerMoves s (settleClock c outcome bytes s) := by
  unfold settleClock
  split
  · split
    · exact ledgerMoves_useTimeFrame ..
    · exact .refl s
  · exact .refl s

theorem ledgerMoves_closeReception (c : Context) (s : State) : LedgerMoves s (closeReception c s) := by
  simp only [closeReception]
  split
  · exact (ledgerMoves_retireCheck ..).after_ledger rfl
  · exact .of_ledger rfl

theorem ledgerMoves_frameClosed (c : Context) (outcome : EndOutcome) (bytes : List Byte) (s : State) :
    LedgerMoves s (frameClosed c outcome bytes s) := by
  have hcounted := ledgerMoves_countEnd c outcome s
  have hstored := hcounted.trans (ledgerMoves_settleReservation c outcome _)
  have htimed := hstored.trans (ledgerMoves_settleClock c outcome bytes _)
  exact (htimed.then_ledger (ledger_endCapture c outcome bytes.length _)).trans (ledgerMoves_closeReception c _)

theorem ledgerMoves_intakePayload (allGates : Bool) (payload : List Byte) (s : State) :
    LedgerMoves s (intakePayload allGates payload s) := by
  unfold intakePayload
  split
  · exact (ledgerMoves_agentRun _).after_ledger (ledger_intake ..)
  · exact .of_ledger (ledger_count ..)

theorem ledgerMoves_settleRequest (c : Context) (outcome : EndOutcome) (bytes : List Byte) (s : State) :
    LedgerMoves s (settleRequest c outcome bytes s) := by
  unfold settleRequest
  split
  · exact ledgerMoves_intakePayload ..
  · exact ledgerMoves_intakePayload ..
  · exact .refl s

theorem ledgerMoves_endEvent (early : Bool) (s : State) : LedgerMoves s (endEvent early s) := by
  unfold endEvent
  split
  · exact .refl s
  · split
    · rw [endFrame_eq]
      exact (ledgerMoves_frameClosed ..).trans (ledgerMoves_settleRequest ..)
    · exact .of_ledger rfl

theorem ledgerMoves_linkDown (cause : LinkCause) (s : State) : LedgerMoves s (linkDown cause s) := by
  simp only [linkDown]
  refine (ledgerMoves_endEvent true s).then_ledger ?_
  rw [ledger_raise]
  split <;> rfl

/-! ### Commands -/

theorem ledgerMoves_signalSeen (s : State) : LedgerMoves s (signalSeen s) := by
  unfold signalSeen
  split <;> exact .of_ledger rfl

theorem ledgerMoves_signalLost (s : State) : LedgerMoves s (signalLost s) := by
  unfold signalLost
  split
  · exact .refl s
  · exact ledgerMoves_linkDown ..
  · exact ledgerMoves_linkDown ..

theorem ledgerMoves_alignmentLost (s : State) : LedgerMoves s (alignmentLost s) := by
  unfold alignmentLost
  split
  · exact .refl s
  · exact .of_ledger rfl
  · exact ledgerMoves_linkDown ..

theorem ledgerMoves_invalidGroup (s : State) : LedgerMoves s (invalidGroup s) := by
  unfold invalidGroup
  split
  · exact .refl s
  · exact .of_ledger rfl
  · exact ledgerMoves_endEvent ..

theorem ledgerMoves_startGroup (s : State) : LedgerMoves s (startGroup s) := by
  unfold startGroup
  split
  · exact .refl s
  · exact .of_ledger rfl
  · exact (ledgerMoves_endEvent true s).then_ledger rfl

theorem ledgerMoves_byteGroup (b : Byte) (s : State) : LedgerMoves s (byteGroup b s) := by
  unfold byteGroup
  split
  · exact .refl s
  · exact .of_ledger rfl
  · split
    · exact .refl s
    · exact ledgerMoves_receiveByte ..

theorem ledgerMoves_endGroup (s : State) : LedgerMoves s (endGroup s) := by
  unfold endGroup
  split
  · exact .refl s
  · exact .of_ledger rfl
  · exact ledgerMoves_endEvent ..

theorem ledgerMoves_stallTimerRunsOut (l : Lane) (s : State) : LedgerMoves s (stallTimerRunsOut l s) := by
  unfold stallTimerRunsOut
  split
  · exact ((((ledgerMoves_enterBlocked ..).after_ledger (ledger_elapse ..)).trans
      (ledgerMoves_restartCheck _)).trans (ledgerMoves_agentRun _))
  · exact .refl s

theorem ledgerMoves_sendRunsOut (l : Lane) (s : State) : LedgerMoves s (sendRunsOut l s) := by
  unfold sendRunsOut
  split
  · exact .refl s
  · exact ((((ledgerMoves_sendEnd ..).after_ledger (ledger_elapse ..)).trans
      (ledgerMoves_restartCheck _)).trans (ledgerMoves_agentRun _))

theorem ledgerMoves_scheduledTimeComes (s : State) : LedgerMoves s (scheduledTimeComes s) := by
  unfold scheduledTimeComes
  split
  · exact .refl s
  · exact (ledgerMoves_commitSignal _).after_ledger (ledger_elapse ..)

theorem ledgerMoves_stagingTimerRunsOut (s : State) : LedgerMoves s (stagingTimerRunsOut s) := by
  unfold stagingTimerRunsOut
  split
  · exact .refl s
  · exact (ledgerMoves_stagingExpired _).after_ledger (ledger_elapse ..)

theorem ledgerMoves_workEnds (s : State) : LedgerMoves s (workEnds s) := by
  unfold workEnds
  split
  · exact (ledgerMoves_agentRun _).after_ledger rfl
  · exact .refl s

/-- A command out of reset moves what its work moves; in reset nothing. -/
theorem ledgerMoves_act {work : State → State} {s t : State} (hwork : LedgerMoves s (work s))
    (h : act work s = .next t) : LedgerMoves s t := by
  unfold act at h
  split at h
  · cases h
    exact hwork.then_ledger (ledger_settle _)
  · cases h
    exact .refl s

/-- What every command moves. -/
theorem ledgerMoves_exec {c : Instr} {s t : State} (h : exec c s = .next t) : LedgerMoves s t := by
  cases hc : c.request with
  | some p =>
    obtain ⟨m, r⟩ := p
    rw [exec_of_request hc] at h
    exact ledgerMoves_act (ledgerMoves_takeRequest ..) h
  | none =>
    cases c with
    | powerOn straps =>
      cases h
      exact .single (.reset _)
    | resetNAsserted =>
      cases h
      exact .of_ledger rfl
    | resetNReleased straps =>
      simp only [exec, execResetNReleased] at h
      split at h
      · cases h
        exact .refl s
      · cases h
        exact .single (.reset _)
    | signalPresent => exact (ledgerMoves_act (ledgerMoves_signalSeen _) h).after_ledger rfl
    | lossOfSignal => exact (ledgerMoves_act (ledgerMoves_signalLost _) h).after_ledger rfl
    | lossOfAlignment => exact ledgerMoves_act (ledgerMoves_alignmentLost s) h
    | invalidCodeGroup => exact ledgerMoves_act (ledgerMoves_invalidGroup s) h
    | idleTimerExpiry => exact ledgerMoves_act (.of_ledger (ledger_idleTimerRunsOut s)) h
    | startDelimiter => exact ledgerMoves_act (ledgerMoves_startGroup s) h
    | dataByte b => exact ledgerMoves_act (ledgerMoves_byteGroup b s) h
    | endDelimiter => exact ledgerMoves_act (ledgerMoves_endGroup s) h
    | waitAsserted l =>
      exact (ledgerMoves_act (.of_ledger (ledger_waitAsserted ..)) h).after_ledger (by cases l <;> rfl)
    | waitReleased l =>
      exact (ledgerMoves_act (.of_ledger (ledger_waitReleased ..)) h).after_ledger (by cases l <;> rfl)
    | stallTimerExpiry l => exact ledgerMoves_act (ledgerMoves_stallTimerRunsOut l s) h
    | laneSendStart l =>
      exact ledgerMoves_act (work := fun s => agentRun (sendStart l s))
        ((ledgerMoves_sendStart l s).trans (ledgerMoves_agentRun _)) h
    | laneSendEnd l => exact ledgerMoves_act (ledgerMoves_sendRunsOut l s) h
    | slewIntervalExpiry => exact ledgerMoves_act (.of_ledger (ledger_slewIntervalRunsOut s)) h
    | holdoverTimerExpiry => exact ledgerMoves_act (.of_ledger (ledger_holdoverTimerRunsOut s)) h
    | scheduledCommit => exact ledgerMoves_act (ledgerMoves_scheduledTimeComes s) h
    | stagingTimerExpiry => exact ledgerMoves_act (ledgerMoves_stagingTimerRunsOut s) h
    | retryTimerExpiry sequence => exact ledgerMoves_act (.of_ledger (ledger_retryTimerRunsOut sequence s)) h
    | workIntervalEnd => exact ledgerMoves_act (ledgerMoves_workEnds s) h
    | badRequest m code operands => exact ledgerMoves_act (ledgerMoves_takeRequest ..) h
    | releaseTimeComing l => exact ledgerMoves_act (.of_ledger (ledger_headComes l s)) h
    | _ => simp [Instr.request] at hc

/-- What every move of the ledger keeps, and what reads the ledger alone, every step keeps. -/
theorem step_keeps_of_ledger {P : State → Prop} (hP : ∀ s t, LedgerMove s t → P s → P t) {s t : State}
    (h : step s = .next t) (hs : P s) : P t :=
  step_keeps (P := P) (fun _ _ _ he => (ledgerMoves_exec he).keeps hP)
    (fun s queue => (LedgerMoves.of_ledger (s := s) (t := { s with pending := queue }) rfl).keeps hP) (fun s => (LedgerMoves.of_ledger (by simp)).keeps hP) h hs

/-! ### The statements -/

/-- Settles O54, by what every move of the ledger keeps. -/
theorem tableAndListLawsAreKept : Obligations.TableAndListLawsAreKept :=
  fun _ _ hlist hstaged htable h =>
    step_keeps_of_ledger (P := TableAndListLaw) (fun _ _ hmove => hmove.tableAndListLaw) h ⟨hlist, hstaged, htable⟩

/-- Settles O57, by what every move of the ledger keeps. -/
theorem counterSumsAreKept : Obligations.CounterSumsAreKept :=
  fun _ _ hs h => step_keeps_of_ledger (P := CounterLaw) (fun _ _ hmove => hmove.counterLaw) h hs

/-- Settles O58, by what every move of the ledger keeps. -/
theorem storageIsAccountedFor : Obligations.StorageIsAccountedFor :=
  ⟨fun _ _ hs h => step_keeps_of_ledger (P := CellLaw) (fun _ _ hmove => hmove.cellLaw) h hs,
    fun _ _ hs h => step_keeps_of_ledger (P := HeldLaw) (fun _ _ hmove => hmove.heldLaw) h hs⟩

end Sys2Proof.Machine

/-! The statement about the reset state: after a hard reset every law holds, and the reset state is one after a hard
reset with every pin at its first level. -/

namespace Sys2Proof.Machine

open Sys2Proof

/-- The reset state is what a hard reset makes of it. -/
theorem hardReset_reset : hardReset State.reset = State.reset := by
  rw [hardReset_eq]
  rfl

theorem reset_entry (k : Slot) : State.reset.entry k = .reset := hardReset_reset ▸ hardReset_entry State.reset k

theorem reset_desc (d : DescNo) : State.reset.desc d = none := by
  simp [State.desc, State.reset, Pool.reset, Vector.get_eq_getElem]

theorem tableLaw_reset : TableLaw State.reset := by
  simp [TableLaw, reset_entry, Entry.reset]

theorem counterLaw_reset : CounterLaw State.reset := by
  intro k
  rw [reset_entry]
  exact countsAddUp_zero

theorem cellLaw_reset : CellLaw State.reset := by
  rw [CellLaw, ownedCells, descsInUse_of_reset rfl]
  simp [State.reset, Pool.reset]

theorem heldLaw_reset : HeldLaw State.reset := by
  simp [HeldLaw, reset_entry, Entry.reset, descsOfSlot, State.transitCount, descsInUse_of_reset (s := State.reset) rfl]

/-- Both lanes are IDLE with nothing to send. -/
theorem laneLaw_reset : LaneLaw State.reset := by
  intro l
  cases l <;> simp [State.reset, State.lane, LaneUnit.reset]

/-- No descriptor is in use, and every queue is empty. -/
theorem queueLaw_reset : QueueLaw State.reset := by
  refine ⟨fun l => ?_, ?_⟩
  · cases l <;> simp [laneQueues, sendingOn, State.reset, State.lane, LaneUnit.reset]
  · have hqueue : State.reset.transitQueue = [] := rfl
    have hcontext : State.reset.context = none := rfl
    simp [reset_desc, hqueue, hcontext]

theorem stallLaw_reset : StallLaw State.reset := by
  intro l
  cases l <;> simp [State.reset, State.lane, LaneUnit.reset]

theorem clockLaw_reset : ClockLaw State.reset := by
  simp [ClockLaw, State.reset, Clock.reset, Params.reset]

/-- Settles O52, law by law. -/
theorem resetMeetsTheLaws : Obligations.ResetMeetsTheLaws := by
  have hagent : AgentLaw State.reset := by simp [AgentLaw, State.reset, Agent.reset]
  have hrestart : RestartLaw State.reset := by
    simp [RestartLaw, State.reset, Agent.reset, LaneUnit.reset, sendingRestart]
  have hcommit : CommitLaw State.reset := by simp [CommitLaw, State.reset, Stage.reset]
  have hparams : ParamLaw State.reset.params := by simp [ParamLaw, State.reset, Params.reset]
  have hnotices : NoticeLaw State.reset := by simp [NoticeLaw, State.reset, NoticeUnit.reset]
  exact ⟨hagent, hrestart, listLaw_emptyStage.1, listLaw_emptyStage.2, tableLaw_reset, hcommit, hparams, hnotices,
    clockLaw_reset, counterLaw_reset, cellLaw_reset, heldLaw_reset, laneLaw_reset, queueLaw_reset, stallLaw_reset,
    hardReset_reset ▸ linkLaw_hardReset State.reset, hardReset_reset ▸ trapLaw_hardReset State.reset⟩

end Sys2Proof.Machine

/-! The statement about sequence continuity (R31, R44 to R51). -/

namespace Sys2Proof.Machine

open Sys2Proof

/-- The verdict under CHECK with an expectation, by the distance and the behind run (R46 to R50). -/
theorem judge_check (e q : BitVec 16) (run : Fin 4) :
    judge .check (some e) run q =
      if q - e = 0 then ⟨.inOrder, some (q + 1), 0⟩
      else if (q - e).toNat ≤ 32767 then ⟨.gap (q - e), some (q + 1), 0⟩
      else if run = 3 then ⟨.restart, some (q + 1), 0⟩
      else ⟨.behind, some e, run + 1⟩ := rfl

theorem judge_inOrder (e : BitVec 16) (run : Fin 4) : judge .check (some e) run e = ⟨.inOrder, some (e + 1), 0⟩ := by
  simp [judge_check]

section
variable {e q : BitVec 16} {run : Fin 4}

/-- A distance of at least one is not 0. -/
theorem distance_ne_zero (h : 1 ≤ (q - e).toNat) : q - e ≠ 0 := fun h0 => by
  rw [h0] at h
  simp at h

theorem judge_gap (h1 : 1 ≤ (q - e).toNat) (h : (q - e).toNat ≤ 32767) :
    judge .check (some e) run q = ⟨.gap (q - e), some (q + 1), 0⟩ := by
  rw [judge_check, if_neg (distance_ne_zero h1), if_pos h]

theorem judge_restart (h : ¬ (q - e).toNat ≤ 32767) (hrun : run = 3) :
    judge .check (some e) run q = ⟨.restart, some (q + 1), 0⟩ := by
  rw [judge_check, if_neg (distance_ne_zero (by omega)), if_neg h, if_pos hrun]

theorem judge_behind (h : ¬ (q - e).toNat ≤ 32767) (hrun : run ≠ 3) :
    judge .check (some e) run q = ⟨.behind, some e, run + 1⟩ := by
  rw [judge_check, if_neg (distance_ne_zero (by omega)), if_neg h, if_neg hrun]

end

/-- What the header event has done before Admission, by the judgement. -/
theorem headerClassified_of_judgement {k : Slot} {s : State} {c : Context} {v : Verdict}
    {expected : Option (BitVec 16)} {run : Fin 4} (data : List Byte)
    (h : judge (s.entry k).config.continuity (s.entry k).expected (s.entry k).behindRun c.sequence =
      ⟨v, expected, run⟩) :
    headerClassified k data ⟨s, c⟩ =
      admitStream ⟨k, (s.entry k).state, (s.entry k).config⟩ data
        ⟨noticeVerdict k c.tag c.sequence (s.entry k).expected v
            (s.setEntry k
              { s.entry k with
                lastArrival := some c.arrival
                expected := expected
                behindRun := run
                counters := countVerdict v (s.entry k).counters }),
          { c with
            classified := some ⟨k, (s.entry k).state, (s.entry k).config⟩
            verdict := v
            stampFlags := verdictFlags v }⟩ := by
  have hj : headerJudgement k ⟨s, c⟩ = ⟨v, expected, run⟩ := h
  rw [headerClassified_eq, judgedHeader, arrivedEntry, hj]
  rfl

/-- Settles O14: the verdict by the chain of R46 to R50, and what the header event does by the verdict. -/
theorem continuityVerdictsAndTheirReports : Obligations.ContinuityVerdictsAndTheirReports := by
  refine ⟨fun expected e q run => ?_, fun k data s c e hmode he h1 hcase => ?_, fun k data s c => ?_⟩
  · refine ⟨rfl, rfl, fun h => h ▸ judge_inOrder q run, fun h => ?_, fun h => judge_behind (by omega),
      fun h => judge_restart (by omega)⟩
    obtain ⟨h1, h2⟩ := Finset.mem_Icc.1 h
    exact judge_gap h1 h2
  · intro gap counts
    by_cases hle : (c.sequence - e).toNat ≤ 32767
    · have hgap : gap = true := decide_eq_true hle
      have hj := judge_gap (run := (s.entry k).behindRun) h1 hle
      rw [← hmode, ← he] at hj
      rw [headerClassified_of_judgement data hj, hgap, BitVec.ofNat_toNat]
      exact congrArg (admitStream _ data) rfl
    · have hgap : gap = false := decide_eq_false hle
      have hj := judge_restart hle (hcase.resolve_left hle)
      rw [← hmode, ← he] at hj
      rw [headerClassified_of_judgement data hj, hgap, he]
      exact congrArg (admitStream _ data) rfl
  · refine ⟨fun hmode => ?_, fun hmode he => ?_, fun e hmode he hbehind hrun => ?_⟩
    · exact headerClassified_of_judgement data (by rw [hmode]; rfl)
    · exact headerClassified_of_judgement data (by rw [hmode, he, judge_inOrder])
    · exact headerClassified_of_judgement data (by rw [hmode, he, judge_behind (by omega) hrun])

end Sys2Proof.Machine

/-! The statement about descriptors that leave lanes and are freed (R28, R34, R36, R75, R104, R109). -/

namespace Sys2Proof.Machine

open Sys2Proof

theorem LaneSet.isEmpty_iff (x : LaneSet) : x.isEmpty = true ↔ x = ⟨false, false⟩ := by
  obtain ⟨a, b⟩ := x
  cases a <;> cases b <;> simp [LaneSet.isEmpty]

/-- A lane leaves the remaining set of a descriptor in use, which is freed when no lane is left (R104). -/
theorem leaveLane_of_desc {d : DescNo} {s : State} {r : Descriptor} (h : s.desc d = some r) (l : Lane) :
    leaveLane l d s =
      if r.remaining.without l = ⟨false, false⟩ then freeDesc d s
      else s.setDesc d (some { r with remaining := r.remaining.without l }) := by
  simp only [leaveLane, h, LaneSet.isEmpty_iff]

/-- A frame lost to a lane is counted, and the lane leaves its descriptor (R36, R109). -/
theorem dropLane_of_desc {d : DescNo} {s : State} {r : Descriptor} (h : s.desc d = some r) (l : Lane) :
    dropLane l d s =
      match r.stream with
      | .slot k => leaveLane l d (s.modifyEntry k (·.laneLost l))
      | .transit => leaveLane l d (s.count fun c => { c with transitDropped := c.transitDropped + 1 }) := by
  cases hx : r.stream with
  | slot k => simp only [dropLane, h, hx]
  | transit => simp only [dropLane, h, hx]

/-- Settles O22, by the kind of stream of the descriptor. -/
theorem descriptorsLeaveLanesAndAreFreed : Obligations.DescriptorsLeaveLanesAndAreFreed := by
  refine ⟨fun l d s r h => ⟨leaveLane_of_desc h l, fun hx => ?_, fun k hx => ?_⟩, fun d s r h => ⟨fun hx => ?_,
    fun k hx => ?_⟩⟩
  · rw [dropLane_of_desc h, hx]
    rfl
  · refine ⟨(s.entry k).laneLost l, ?_, ?_, ?_⟩
    · rw [dropLane_of_desc h, hx]
      rfl
    · cases l <;> rfl
    · cases l <;> rfl
  · rw [freeDesc_of_desc h, giveBack, hx]
    rfl
  · have hback : giveBack d r s =
        ({ s with
            pool :=
              ⟨s.pool.descs.set d.val none d.isLt, s.pool.freeCells ++ r.cells, s.pool.admissionCount⟩ }).setEntry k
          { s.entry k with held := (s.entry k).held - 1 } := by
      rw [giveBack, hx]
      rfl
    rw [freeDesc_of_desc h, hx]
    simp only [retireCheck, vacate, hback, State.entry_setEntry_same, State.modifyEntry]
    rfl

end Sys2Proof.Machine

/-! The statements about the requests that read the Stream Table, the Pending Change List and the counters (R19, R39 to
R41, R123, R149). -/

namespace Sys2Proof.Machine

open Sys2Proof

/-! ### A request that is taken at once -/

@[simp] theorem taken_entry (m : Sender) (s : State) (k : Slot) : (taken m s).entry k = s.entry k := by
  simp [taken, State.entry]

@[simp] theorem taken_changes (m : Sender) (s : State) : (taken m s).stage.changes = s.stage.changes :=
  restartStaging_changes ..

@[simp] theorem taken_owner (m : Sender) (s : State) : (taken m s).stage.owner = s.stage.owner :=
  restartStaging_owner ..

@[simp] theorem taken_commit (m : Sender) (s : State) : (taken m s).stage.commit = s.stage.commit :=
  restartStaging_commit ..

@[simp] theorem taken_counters (m : Sender) (s : State) : (taken m s).counters = s.counters :=
  restartStaging_counters ..

/-- The next state of an accepted request row, by the answer of the request's own rule. -/
theorem exec_of_answer {i : Instr} {m : Sender} {r : Request} {s : State} {a : Answer} (hi : i.request = some (m, r))
    (hd : decodeRequest r.code r.operands = some r) (hr : r ≠ .restart) (ha : Accepts m s)
    (hp : perform m.manager r (taken m s) = a) :
    exec i s = .next (settle (answered m r.code a.result a.data (stateChanging r) a.state)) := by
  rw [exec_of_accepts hi hd hr ha, hp]

/-! ### Operands -/

theorem slotOf_of_ge {b : Byte} (h : 64 ≤ b.toNat) : slotOf b = none := dif_neg (by omega)

theorem slotOf_of_eq {b : Byte} {k : Slot} (h : b.toNat = k.val) : slotOf b = some k := by
  have hb : b.toNat < 64 := h ▸ k.isLt
  rw [slotOf, dif_pos hb]
  exact congrArg some (Fin.ext h)

theorem byteOf_of_eq {b : Byte} {n : Nat} (h : b.toNat = n) : byteOf n = b := by
  simp [byteOf, ← h]

theorem bitOf_of_ge {b : Byte} (h : 2 ≤ b.toNat) : bitOf b = none := by
  unfold bitOf
  split
  · omega
  · omega
  · rfl

theorem bitOf_of_lt {b : Byte} (h : b.toNat < 2) : bitOf b = some (decide (b = 1)) := by
  obtain rfl | rfl : b = 0 ∨ b = 1 := by
    bv_omega
  · rfl
  · rfl

/-- The clear option of READ-COUNTERS with scope SLOT is judged first (R39, R177). -/
theorem doReadCounters_slot (slot clear : Byte) (s : State) :
    doReadCounters 0 slot clear s =
      match bitOf clear with
      | some c => doReadSlotCounters slot c s
      | none => refusal .badValue s := by
  unfold doReadCounters
  cases bitOf clear <;> rfl

/-- The same with scope GLOBAL, where the slot operand is not read (R149, R177). -/
theorem doReadCounters_global (slot clear : Byte) (s : State) :
    doReadCounters 1 slot clear s =
      match bitOf clear with
      | some c => doReadGlobalCounters c s
      | none => refusal .badValue s := by
  unfold doReadCounters
  cases bitOf clear <;> rfl

/-- READ-COUNTERS of a slot that there is, with a clear option that there is. -/
theorem perform_readCounters_slot {slot clear : Byte} {k : Slot} (hk : slot.toNat = k.val) (hclear : clear.toNat < 2)
    (m : Byte) (s : State) :
    perform m (.readCounters 0 slot clear) s =
      ⟨.ok, slot :: (slotCounterList (s.entry k).counters).flatMap bytes32,
        if clear = 1 then s.setEntry k { s.entry k with counters := .zero } else s⟩ := by
  rw [perform, doReadCounters_slot, bitOf_of_lt hclear]
  simp only [doReadSlotCounters, slotOf_of_eq hk, slotCounterRecord, byteOf_of_eq hk, decide_eq_true_eq]
  rfl

theorem perform_readCounters_global {clear : Byte} (hclear : clear.toNat < 2) (m slot : Byte) (s : State) :
    perform m (.readCounters 1 slot clear) s =
      ⟨.ok, (globalCounterList s.counters).flatMap bytes32,
        if clear = 1 then { s with counters := .zero } else s⟩ := by
  rw [perform, doReadCounters_global, bitOf_of_lt hclear]
  simp only [doReadGlobalCounters, globalCounterRecord, decide_eq_true_eq]

/-! ### Records -/

/-- Two flag bits side by side are a sum. -/
theorem flags_two (a b : Bool) : bitAt 0 a ||| bitAt 1 b = (if a then 1 else 0) + (if b then 2 else 0) := by
  cases a <;> cases b <;> rfl

theorem flags_four (a b c d : Bool) :
    bitAt 0 a ||| bitAt 1 b ||| bitAt 2 c ||| bitAt 3 d =
      (if a then 1 else 0) + (if b then 2 else 0) + (if c then 4 else 0) + (if d then 8 else 0) := by
  cases a <;> cases b <;> cases c <;> cases d <;> rfl

theorem flags_one (a : Bool) : bitAt 0 a = if a then 1 else 0 := by cases a <;> rfl

/-! ### Tags -/

/-- The one slot that is not VACANT and holds a tag is found (R32, R41). -/
theorem slotHolding_eq_some {s : State} {tag : Tag} {k : Slot} (hlaw : TableLaw s)
    (hused : (s.entry k).state ≠ .vacant) (htag : (s.entry k).config.tag = tag) : slotHolding s tag = some k := by
  cases hj : slotHolding s tag with
  | none =>
    have hnone := List.find?_eq_none.1 hj k (List.mem_finRange k)
    simp [hused, htag] at hnone
  | some j =>
    have hfound := List.find?_some hj
    simp only [Bool.and_eq_true, decide_eq_true_eq] at hfound
    obtain ⟨hj', hsame⟩ := hfound
    rw [hlaw.2 j k hj' hused (hsame.trans htag.symm)]

theorem slotHolding_eq_none {s : State} {tag : Tag}
    (h : ∀ k, (s.entry k).state ≠ .vacant → (s.entry k).config.tag ≠ tag) : slotHolding s tag = none := by
  refine List.find?_eq_none.2 fun k _ => ?_
  simpa using h k

@[simp] theorem taken_slotHolding (m : Sender) (s : State) (tag : Tag) :
    slotHolding (taken m s) tag = slotHolding s tag := by
  simp only [slotHolding, taken_entry]

theorem decode_findTag (tag : Tag) :
    decodeRequest (Request.findTag tag).code (Request.findTag tag).operands = some (.findTag tag) :=
  congrArg (fun t => some (Request.findTag t)) (join16_extract tag)

/-! ### The statements -/

/-- Settles O43: each record is the one of section 11.3, its flag bits written as sums. -/
theorem entriesTagsAndStagedChangesAreRead : Obligations.EntriesTagsAndStagedChangesAreRead := by
  intro m s ha t flag stateCode config
  have hconfig (c : EntryConfig) : configBytes c = config c := by
    rw [configBytes, laneSetByte, flags_two, flags_one]
    rfl
  have hflags (e : Entry) :
      entryFlagsByte e =
        flag e.expected.isSome 1 + flag e.lastArrival.isSome 2 + flag e.discontinuityA 4 + flag e.discontinuityB 8 :=
    flags_four ..
  refine ⟨fun slot h => ?_, fun slot k h => ?_, fun tag h => ?_, fun tag hlt hnone => ?_, fun tag k hlaw hlt hused htag => ?_,
    fun index => ?_⟩
  · refine exec_of_answer (i := .readEntry m slot) (a := refusal .badValue t) rfl rfl (by simp) ha ?_
    simp only [perform, doReadEntry, slotOf_of_ge h, t]
  · intro e
    refine exec_of_answer (i := .readEntry m slot) (a := ⟨.ok, _, t⟩) rfl rfl (by simp) ha ?_
    simp only [perform, doReadEntry, slotOf_of_eq h, entryRecord, byteOf_of_eq h, hconfig, hflags, taken_entry]
    rfl
  · refine exec_of_answer (i := .findTag m tag) (a := refusal .badValue t) rfl (decode_findTag tag) (by simp) ha ?_
    simp only [perform, doFindTag, firstGateTag, h, if_true, t]
  · refine exec_of_answer (i := .findTag m tag) (a := refusal .notFound t) rfl (decode_findTag tag) (by simp) ha ?_
    simp only [perform, doFindTag, firstGateTag, if_neg (Nat.not_le.2 hlt), taken_slotHolding,
      slotHolding_eq_none hnone, t]
  · refine exec_of_answer (i := .findTag m tag) (a := ⟨.ok, _, t⟩) rfl (decode_findTag tag) (by simp) ha ?_
    simp only [perform, doFindTag, firstGateTag, if_neg (Nat.not_le.2 hlt), taken_slotHolding,
      slotHolding_eq_some hlaw hused htag, taken_entry]
    rfl
  · have hstage : t.stage.changes[index.toNat]? = s.stage.changes[index.toNat]? := by rw [taken_changes]
    cases hc : s.stage.changes[index.toNat]? with
    | none =>
      refine exec_of_answer (i := .readStaged m index) (a := refusal .badValue t) rfl rfl (by simp) ha ?_
      simp only [perform, doReadStaged, t] at hstage ⊢
      rw [hstage, hc]
    | some c =>
      refine exec_of_answer (i := .readStaged m index) (a := ⟨.ok, _, t⟩) rfl rfl (by simp) ha ?_
      simp only [perform, doReadStaged, t] at hstage ⊢
      rw [hstage, hc]
      simp only [stagedRecord, taken_changes, taken_owner, taken_commit]
      cases s.stage.commit <;> cases c <;> simp only [changeBytes, hconfig, flags_one] <;> rfl

/-- Settles O44, by the slot and clear operands. -/
theorem countersAreReadAndCleared : Obligations.CountersAreReadAndCleared := by
  intro m s slot clear ha t g changing
  refine ⟨fun h => ?_, fun k hk hclear => ?_, fun h => ?_, fun hclear => ?_⟩
  · refine exec_of_answer (i := .readCountersSlot m slot clear) (a := refusal .badValue t) rfl rfl (by simp) ha ?_
    rw [perform, doReadCounters_slot]
    by_cases hc : 2 ≤ clear.toNat
    · rw [bitOf_of_ge hc]
    · rw [bitOf_of_lt (Nat.not_le.1 hc)]
      simp only [doReadSlotCounters, slotOf_of_ge (h.resolve_right hc), t]
  · rw [exec_of_answer (i := .readCountersSlot m slot clear) rfl rfl (by simp) ha
      (perform_readCounters_slot hk hclear ..), taken_entry]
    rfl
  · refine exec_of_answer (i := .readCountersGlobal m slot clear) (a := refusal .badValue t) rfl rfl (by simp) ha ?_
    rw [perform, doReadCounters_global, bitOf_of_ge h]
  · rw [exec_of_answer (i := .readCountersGlobal m slot clear) rfl rfl (by simp) ha
      (perform_readCounters_global hclear ..), taken_counters]
    rfl

end Sys2Proof.Machine

/-! SUPPORT. RETIRED notices raised one after another, and what drops and changes of the Stream Table leave alone. -/

namespace Sys2Proof.Machine

open Sys2Proof

/-! ### RETIRED notices one after another (R28) -/

/-- Since `s` the RETIRED notices of the slots were raised, in their order, and nothing else reached the Notice Unit. -/
structure RetiredRaised (ks : List Slot) (s t : State) : Prop where
  notices : t.notices = (raiseRetired ks s).notices
  lost : t.counters.noticesLost = (raiseRetired ks s).counters.noticesLost
  params : t.params = s.params
  clock : t.clock = s.clock

/-- No notice is raised. -/
theorem RetiredRaised.nil {s t : State} (hnotices : t.notices = s.notices)
    (hlost : t.counters.noticesLost = s.counters.noticesLost) (hparams : t.params = s.params)
    (hclock : t.clock = s.clock) : RetiredRaised [] s t := ⟨hnotices, hlost, hparams, hclock⟩

/-- One more slot becomes VACANT. -/
theorem RetiredRaised.concat {ks : List Slot} {s t u : State} (h : RetiredRaised ks s t) (k : Slot)
    (hnotices : u.notices =
      (raise .retired (some k) (s.entry k).config.tag (s.entry k).counters.received t).notices)
    (hlost : u.counters.noticesLost =
      (raise .retired (some k) (s.entry k).config.tag (s.entry k).counters.received t).counters.noticesLost)
    (hparams : u.params = t.params) (hclock : u.clock = t.clock) : RetiredRaised (ks ++ [k]) s u := by
  have hp : t.params = (raiseRetired ks s).params := by rw [raiseRetired_params, h.params]
  have hc : t.clock = (raiseRetired ks s).clock := by rw [raiseRetired_clock, h.clock]
  refine ⟨?_, ?_, hparams.trans h.params, hclock.trans h.clock⟩
  · rw [raiseRetired_concat, hnotices, raise_notices_congr hp hc h.notices]
  · rw [raiseRetired_concat, hlost, raise_noticesLost_congr hp h.notices h.lost]

/-- Two runs of raises are one, where the later slots kept their tags and received counters in the earlier run. -/
theorem RetiredRaised.trans {ks ks' : List Slot} {s t u : State} (h : RetiredRaised ks s t)
    (h' : RetiredRaised ks' t u)
    (hsame : ∀ k, (t.entry k).config.tag = (s.entry k).config.tag ∧
      (t.entry k).counters.received = (s.entry k).counters.received) : RetiredRaised (ks ++ ks') s u := by
  induction ks' using List.reverseRecOn generalizing u with
  | nil =>
    obtain ⟨hnotices, hlost, hparams, hclock⟩ := h'
    rw [raiseRetired_nil] at hnotices hlost
    rw [List.append_nil]
    exact ⟨hnotices.trans h.notices, hlost.trans h.lost, hparams.trans h.params, hclock.trans h.clock⟩
  | append_singleton ks' k ih =>
    have hbefore : RetiredRaised ks' t (raiseRetired ks' t) :=
      ⟨rfl, rfl, raiseRetired_params .., raiseRetired_clock ..⟩
    obtain ⟨hnotices, hlost, hparams, hclock⟩ := h'
    obtain ⟨htag, hreceived⟩ := hsame k
    rw [raiseRetired_concat, htag, hreceived] at hnotices hlost
    rw [← List.append_assoc]
    exact (ih hbefore).concat k hnotices hlost (by rw [hparams, raiseRetired_params])
      (by rw [hclock, raiseRetired_clock])

/-- The global counters but for notices lost, which every raise may change. -/
def GlobalCounters.butLost (c : GlobalCounters) : GlobalCounters := { c with noticesLost := 0 }

theorem raise_butLost (cls : NoticeClass) (slot : Option Slot) (tag : Tag) (detail : BitVec 32) (s : State) :
    (raise cls slot tag detail s).counters.butLost = s.counters.butLost := by
  obtain ⟨n, hn⟩ := raise_counters cls slot tag detail s
  rw [hn]
  rfl

theorem raiseRetired_butLost (ks : List Slot) (s : State) :
    (raiseRetired ks s).counters.butLost = s.counters.butLost := by
  obtain ⟨n, hn⟩ := raiseRetired_counters ks s
  rw [hn]
  rfl

/-- Two sets of counters that agree but for notices lost, and agree there. -/
theorem GlobalCounters.eq_of_butLost {c c' : GlobalCounters} (h : c.butLost = c'.butLost)
    (hlost : c.noticesLost = c'.noticesLost) : c = c' :=
  calc c
    _ = { c.butLost with noticesLost := c.noticesLost } := rfl
    _ = { c'.butLost with noticesLost := c'.noticesLost } := by rw [h, hlost]

/-! ### What stays beside table, pools, notices and counters -/

/-- The state but for the table, the descriptors and free cells, the Notice Unit and the global counters. -/
def outerFrame (s : State) : State :=
  { s with
    table := Vector.replicate 64 .reset
    pool := { Pool.reset with admissionCount := s.pool.admissionCount }
    notices := .reset
    counters := .zero }

/-- What the frame keeps, written out. -/
theorem eq_of_outerFrame {s t : State} (h : outerFrame t = outerFrame s) :
    t =
      { s with
        table := t.table
        pool := ⟨t.pool.descs, t.pool.freeCells, s.pool.admissionCount⟩
        notices := t.notices
        counters := t.counters } := by
  have hcount : t.pool.admissionCount = s.pool.admissionCount := congrArg (fun u => u.pool.admissionCount) h
  rw [← hcount]
  calc t
    _ = { outerFrame t with table := t.table, pool := t.pool, notices := t.notices, counters := t.counters } := rfl
    _ = { outerFrame s with table := t.table, pool := t.pool, notices := t.notices, counters := t.counters } := by
        rw [h]

@[simp] theorem outerFrame_raise (cls : NoticeClass) (slot : Option Slot) (tag : Tag) (detail : BitVec 32) (s : State) :
    outerFrame (raise cls slot tag detail s) = outerFrame s := by
  unfold raise
  split_ifs <;> rfl

@[simp] theorem outerFrame_setEntry (s : State) (k : Slot) (e : Entry) :
    outerFrame (s.setEntry k e) = outerFrame s := rfl

@[simp] theorem outerFrame_modifyEntry (s : State) (k : Slot) (f : Entry → Entry) :
    outerFrame (s.modifyEntry k f) = outerFrame s := rfl

@[simp] theorem outerFrame_setDesc (s : State) (d : DescNo) (x : Option Descriptor) :
    outerFrame (s.setDesc d x) = outerFrame s := rfl

@[simp] theorem outerFrame_count (s : State) (f : GlobalCounters → GlobalCounters) :
    outerFrame (s.count f) = outerFrame s := rfl

@[simp] theorem outerFrame_vacate (k : Slot) (s : State) : outerFrame (vacate k s) = outerFrame s :=
  outerFrame_raise ..

@[simp] theorem outerFrame_retireCheck (k : Slot) (s : State) : outerFrame (retireCheck k s) = outerFrame s := by
  unfold retireCheck
  split
  · exact outerFrame_vacate k s
  · rfl

/-- Work done for each of a list keeps what it keeps for one. -/
theorem foldl_keeps {α β : Type} {f : State → α → State} (proj : State → β) (hf : ∀ s x, proj (f s x) = proj s)
    (xs : List α) (s : State) : proj (xs.foldl f s) = proj s := by
  induction xs generalizing s with
  | nil => rfl
  | cons x xs ih => rw [List.foldl_cons, ih, hf]

end Sys2Proof.Machine

/-! The statement about validation and application of the Pending Change List (R25 to R27, R125, R127). -/

namespace Sys2Proof.Machine

open Sys2Proof

/-! ### Validation -/

/-- The failure found is the first change that fails, with its place and its reason (R125). -/
theorem firstFailure_eq_some {s : State} {i : Nat} {cs : List Change} {f : Failure} :
    firstFailure s i cs = some f ↔
      i ≤ f.index ∧ cs[f.index - i]? = some f.change ∧ changeFailure s f.change = some f.reason ∧
        ∀ c ∈ cs.take (f.index - i), changeFailure s c = none := by
  induction cs generalizing i with
  | nil => simp [firstFailure]
  | cons c cs ih =>
    rw [firstFailure]
    cases hc : changeFailure s c with
    | some reason =>
      constructor
      · intro h
        cases h
        simp [hc]
      · rintro ⟨hi, hat, hreason, hbefore⟩
        obtain hlt | heq := hi.lt_or_eq
        · have hfirst := hbefore c (by
            rw [show f.index - i = f.index - i - 1 + 1 by omega]
            simp)
          rw [hc] at hfirst
          cases hfirst
        · obtain ⟨index, change, why⟩ := f
          simp only at heq hat hreason
          subst heq
          simp only [Nat.sub_self, List.getElem?_cons_zero, Option.some.injEq] at hat
          subst hat
          rw [hc] at hreason
          cases hreason
          rfl
    | none =>
      simp only [ih]
      constructor
      · rintro ⟨hi, hat, hreason, hbefore⟩
        have hstep : f.index - i = f.index - (i + 1) + 1 := by omega
        rw [hstep, List.getElem?_cons_succ, List.take_succ_cons]
        exact ⟨by omega, hat, hreason, List.forall_mem_cons.2 ⟨hc, hbefore⟩⟩
      · rintro ⟨hi, hat, hreason, hbefore⟩
        have hlt : i < f.index := by
          refine lt_of_le_of_ne hi fun h => ?_
          rw [← h, Nat.sub_self, List.getElem?_cons_zero, Option.some.injEq] at hat
          rw [← hat, hc] at hreason
          cases hreason
        have hstep : f.index - i = f.index - (i + 1) + 1 := by omega
        rw [hstep, List.getElem?_cons_succ] at hat
        rw [hstep, List.take_succ_cons] at hbefore
        exact ⟨hlt, hat, hreason, (List.forall_mem_cons.1 hbefore).2⟩

theorem validate_eq_some {s : State} {f : Failure} :
    validate s = some f ↔
      s.stage.changes[f.index]? = some f.change ∧ changeFailure s f.change = some f.reason ∧
        ∀ c ∈ s.stage.changes.take f.index, changeFailure s c = none := by
  rw [validate, firstFailure_eq_some]
  simp

/-! ### Application -/

/-- The slot that a change makes VACANT at once, from the state before the list (R27). -/
def vacatedBy (s : State) : Change → Option Slot
  | .retire k => if (s.entry k).held = 0 ∧ s.engaged ≠ some k then some k else none
  | .setEntry _ _ _ _ => none

@[simp] theorem outerFrame_applyChange (s : State) (c : Change) : outerFrame (applyChange s c) = outerFrame s := by
  cases c with
  | setEntry k into config reset => rfl
  | retire k =>
    simp only [applyChange, retireEntry]
    split
    · exact outerFrame_vacate k s
    · rfl

/-- Of the global counters a change can raise notices lost alone. -/
theorem applyChange_butLost (s : State) (c : Change) : (applyChange s c).counters.butLost = s.counters.butLost := by
  cases c with
  | setEntry k into config reset => rfl
  | retire k =>
    simp only [applyChange, retireEntry]
    split
    · exact raise_butLost ..
    · rfl

/-- A change for a slot not changed before raises RETIRED where it makes the slot VACANT at once. -/
theorem RetiredRaised.applyChange {ks : List Slot} {s t : State} (h : RetiredRaised ks s t) {c : Change}
    (hentry : t.entry c.slot = s.entry c.slot) (hengaged : t.engaged = s.engaged) :
    RetiredRaised (ks ++ (vacatedBy s c).toList) s (applyChange t c) := by
  have same {u : State} (hnotices : u.notices = t.notices) (hcounters : u.counters = t.counters)
      (hparams : u.params = t.params) (hclock : u.clock = t.clock) : RetiredRaised (ks ++ []) s u := by
    rw [List.append_nil]
    exact ⟨hnotices ▸ h.notices, hcounters ▸ h.lost, hparams ▸ h.params, hclock ▸ h.clock⟩
  cases c with
  | setEntry k into config reset => exact same rfl rfl rfl rfl
  | retire k =>
    rw [Change.slot] at hentry
    simp only [Machine.applyChange, retireEntry, vacatedBy, hentry, hengaged]
    split
    · have hmodified : RetiredRaised ks s (t.modifyEntry k fun e => { e with state := .vacant }) :=
        ⟨h.notices, h.lost, h.params, h.clock⟩
      rw [vacate, hentry]
      exact hmodified.concat k rfl rfl (raise_params ..) (raise_clock ..)
    · exact same rfl rfl rfl rfl

/-- The RETIRED notices of a list enter in list order (R27, R127). -/
theorem retiredRaised_foldl_applyChange {cs : List Change} (hn : (cs.map Change.slot).Nodup) (s : State) :
    RetiredRaised (cs.filterMap (vacatedBy s)) s (cs.foldl applyChange s) := by
  induction cs using List.reverseRecOn with
  | nil => exact .nil rfl rfl rfl rfl
  | append_singleton cs c ih =>
    rw [List.map_append, List.map_singleton, List.nodup_append] at hn
    obtain ⟨hcs, -, hdisjoint⟩ := hn
    have hnone : changeFor cs c.slot = none :=
      List.find?_eq_none.2 fun x hx => by
        simpa using hdisjoint x.slot (List.mem_map_of_mem hx) c.slot (List.mem_singleton_self _)
    rw [List.foldl_append, List.filterMap_append, List.foldl_cons, List.foldl_nil]
    have hstep := (ih hcs).applyChange (c := c) (by rw [foldl_applyChange_entry hcs, hnone])
      (foldl_keeps State.engaged applyChange_engaged cs s)
    have hlast : [c].filterMap (vacatedBy s) = (vacatedBy s c).toList := by
      cases h : vacatedBy s c <;> simp [h]
    rwa [hlast]

/-- Settles O37: each change as validation judges it, and each slot by its one change. -/
theorem validationAndApplicationOfTheList : Obligations.ValidationAndApplicationOfTheList := by
  refine ⟨fun s => ?_, fun s hn => ?_⟩
  · intro after reason
    have hafter (k : Slot) : after k = tagAfter s k := rfl
    have hreason (c : Change) : reason c = changeFailure s c := by
      cases c with
      | retire k => rw [changeFailure_retire]
      | setEntry k into config reset =>
        rw [changeFailure_setEntry]
        simp only [reason, hafter, tagTaken_iff]
    simp only [hreason]
    exact ⟨validate_eq_none, fun f => validate_eq_some⟩
  · intro t zero
    have hentry {c : Change} (hc : c ∈ s.stage.changes) : t.entry c.slot = changedEntry s.engaged (s.entry c.slot) c := by
      rw [applyChanges_entry hn, changeFor_of_mem hn hc]
    have hraised := retiredRaised_foldl_applyChange hn s
    refine ⟨fun k hk => ?_, fun k hk => hentry hk, fun k into config reset hk => hentry hk, rfl,
      ⟨hraised.notices, ?_⟩, ?_⟩
    · have hnone : changeFor s.stage.changes k = none := List.find?_eq_none.2 fun c hc => by simpa using hk c hc
      rw [applyChanges_entry hn, hnone]
    · have hcounters := foldl_keeps (fun u => u.counters.butLost) applyChange_butLost s.stage.changes s
      exact GlobalCounters.eq_of_butLost (hcounters.trans (raiseRetired_butLost ..).symm) hraised.lost
    · have hframe := eq_of_outerFrame (foldl_keeps outerFrame outerFrame_applyChange s.stage.changes s)
      have hpool : (s.stage.changes.foldl applyChange s).pool = s.pool := applyChanges_pool s
      rw [hpool] at hframe
      exact congrArg (fun u : State => { u with stage := emptyStage }) hframe

end Sys2Proof.Machine

/-! SUPPORT. Frames taken from the lanes, counted: what the losses and the descriptors freed leave of table, free cells,
counters and notices. -/

namespace Sys2Proof.Machine

open Sys2Proof

/-! ### Tallies -/

/-- What frames taken from the lanes come to: for each slot the losses to each lane and the descriptors freed, the
transit frames dropped, and the cells of the descriptors freed. -/
structure Tally where
  lostA : Slot → Nat
  lostB : Slot → Nat
  freed : Slot → Nat
  transit : Nat
  cells : List Nat

/-- Nothing taken. -/
def Tally.zero : Tally := ⟨fun _ => 0, fun _ => 0, fun _ => 0, 0, []⟩

/-- Two tallies one after the other. -/
def Tally.add (x y : Tally) : Tally :=
  ⟨fun k => x.lostA k + y.lostA k, fun k => x.lostB k + y.lostB k, fun k => x.freed k + y.freed k,
    x.transit + y.transit, x.cells ++ y.cells⟩

/-- The tallies of several descriptors. -/
def Tally.sum (f : DescNo → Tally) : List DescNo → Tally
  | [] => .zero
  | d :: ds => (f d).add (Tally.sum f ds)

@[simp] theorem Tally.add_zero (x : Tally) : x.add .zero = x := by simp [Tally.add, Tally.zero]

@[simp] theorem Tally.zero_add (x : Tally) : Tally.zero.add x = x := by simp [Tally.add, Tally.zero]

/-- A frame lost to a lane (R36, R109). -/
def lossTally (l : Lane) (x : Stream) : Tally :=
  { lostA := fun k => if x = .slot k ∧ l = .a then 1 else 0
    lostB := fun k => if x = .slot k ∧ l = .b then 1 else 0
    freed := fun _ => 0
    transit := if x = .transit then 1 else 0
    cells := [] }

/-- A descriptor freed (R34, R75). -/
def freeTally (r : Descriptor) : Tally :=
  { lostA := fun _ => 0
    lostB := fun _ => 0
    freed := fun k => if r.stream = .slot k then 1 else 0
    transit := 0
    cells := r.cells }

/-- A lane leaves a descriptor, which is freed with its last lane. -/
def leaveTally (l : Lane) (r : Descriptor) : Tally :=
  if r.remaining.without l = ⟨false, false⟩ then freeTally r else .zero

/-- A frame lost to a lane, with its descriptor. -/
def dropTally (l : Lane) (r : Descriptor) : Tally := (lossTally l r.stream).add (leaveTally l r)

/-- Transit dropped raised by a number of frames. -/
def GlobalCounters.addDropped (c : GlobalCounters) (n : Nat) : GlobalCounters :=
  { c with transitDropped := c.transitDropped + BitVec.ofNat 32 n }

@[simp] theorem GlobalCounters.addDropped_zero (c : GlobalCounters) : c.addDropped 0 = c := by
  simp [GlobalCounters.addDropped]

theorem GlobalCounters.addDropped_add (c : GlobalCounters) (m n : Nat) :
    (c.addDropped m).addDropped n = c.addDropped (m + n) := by
  simp only [GlobalCounters.addDropped, BitVec.ofNat_add, BitVec.add_assoc]

/-! ### What is left after frames are taken -/

/-- `t` is `s` after frames were taken from the lanes with a tally, as far as table, free cells, counters and notices
go (R28, R34, R36, R75). -/
structure Taken (x : Tally) (s t : State) : Prop where
  engaged : t.engaged = s.engaged
  entry : ∀ k,
    t.entry k = entryAfterDrops (x.lostA k) (x.lostB k) (x.freed k) (decide (s.engaged = some k)) (s.entry k)
  cells : t.pool.freeCells.Perm (s.pool.freeCells ++ x.cells)
  counters : t.counters.butLost = s.counters.butLost.addDropped x.transit
  retired : ∃ ks : List Slot, ks.Nodup ∧
    (∀ k, k ∈ ks ↔ (s.entry k).state = .retiring ∧ (t.entry k).state = .vacant) ∧ RetiredRaised ks s t

/-- An update of fields that a tally does not count. -/
theorem Taken.of_same {s t : State} (htable : t.table = s.table) (hcells : t.pool.freeCells = s.pool.freeCells)
    (hcounters : t.counters = s.counters) (hnotices : t.notices = s.notices) (hparams : t.params = s.params)
    (hclock : t.clock = s.clock) (hengaged : t.engaged = s.engaged) : Taken .zero s t where
  engaged := hengaged
  entry k := by
    rw [State.entry, htable]
    exact (entryAfterDrops_zero ..).symm
  cells := by simp [hcells, Tally.zero]
  counters := by simp [hcounters, Tally.zero]
  retired := by
    refine ⟨[], List.nodup_nil, fun k => ?_, .nil hnotices (by rw [hcounters]) hparams hclock⟩
    rw [State.entry, State.entry, htable]
    cases (s.table.get k).state <;> simp

/-- One frame of a slot's stream lost to a lane. -/
theorem taken_laneLost (l : Lane) (k : Slot) (s : State) :
    Taken (lossTally l (.slot k)) s (s.modifyEntry k (·.laneLost l)) where
  engaged := rfl
  entry j := by
    by_cases hj : j = k
    · subst hj
      rw [State.entry_modifyEntry_same, ← entryAfterDrops_laneLost l (decide (s.engaged = some j))]
      simp [lossTally]
    · simp [State.entry_modifyEntry_ne s _ hj, lossTally, Ne.symm hj]
  cells := by simp [lossTally]
  counters := by simp [lossTally]
  retired := by
    refine ⟨[], List.nodup_nil, fun j => ?_, .nil rfl rfl rfl rfl⟩
    have hstate : ((s.modifyEntry k (·.laneLost l)).entry j).state = (s.entry j).state := by
      by_cases hj : j = k
      · subst hj
        cases l <;> simp [Entry.laneLost]
      · rw [State.entry_modifyEntry_ne s _ hj]
    rw [hstate]
    cases (s.entry j).state <;> simp

/-- One transit frame dropped. -/
theorem taken_transitDropped (l : Lane) (s : State) :
    Taken (lossTally l .transit) s (s.count fun c => { c with transitDropped := c.transitDropped + 1 }) where
  engaged := rfl
  entry k := by simp [lossTally]
  cells := by simp [lossTally]
  counters := rfl
  retired := by
    refine ⟨[], List.nodup_nil, fun k => ?_, .nil rfl rfl rfl rfl⟩
    rw [State.entry_count]
    cases (s.entry k).state <;> simp

/-- A slot that becomes VACANT with a raise keeps everything but its state. -/
theorem vacate_entry (k : Slot) (s : State) (j : Slot) :
    (vacate k s).entry j = { s.entry j with state := if j = k then .vacant else (s.entry j).state } := by
  rw [vacate, raise_entry]
  by_cases hj : j = k
  · subst hj
    simp
  · simp [State.entry_modifyEntry_ne s _ hj, hj]

/-- What a retirement check leaves of each entry (R28). -/
theorem retireCheck_entry_eq (k : Slot) (s : State) (j : Slot) :
    (retireCheck k s).entry j =
      { s.entry j with
        state :=
          if j = k ∧ (s.entry k).state = .retiring ∧ (s.entry k).held = 0 ∧ s.engaged ≠ some k then .vacant
          else (s.entry j).state } := by
  unfold retireCheck
  by_cases h : (s.entry k).state = .retiring ∧ (s.entry k).held = 0 ∧ s.engaged ≠ some k
  · rw [if_pos h, vacate_entry]
    simp [h]
  · rw [if_neg h]
    simp [h]

/-- A descriptor given back touches table and pools alone, so it raises nothing. -/
theorem giveBack_frame (d : DescNo) (r : Descriptor) (s : State) :
    (giveBack d r s).counters = s.counters ∧ (giveBack d r s).notices = s.notices ∧
      (giveBack d r s).params = s.params ∧ (giveBack d r s).clock = s.clock ∧
      (giveBack d r s).engaged = s.engaged ∧
      (giveBack d r s).pool.freeCells = s.pool.freeCells ++ r.cells := by
  unfold giveBack State.modifyHeld
  cases r.stream <;> exact ⟨rfl, rfl, rfl, rfl, rfl, rfl⟩

/-- What a descriptor freed leaves of each entry (R28, R34). -/
theorem freeDesc_entry {d : DescNo} {s : State} {r : Descriptor} (h : s.desc d = some r) (k : Slot) :
    (freeDesc d s).entry k =
      entryAfterDrops 0 0 ((freeTally r).freed k) (decide (s.engaged = some k)) (s.entry k) := by
  obtain ⟨-, -, -, -, hengaged, -⟩ := giveBack_frame d r s
  rw [freeDesc_of_desc h]
  cases hx : r.stream with
  | transit => simp [entry_giveBack, freeTally, hx]
  | slot j =>
    simp only [retireCheck_entry_eq, entry_giveBack, hengaged, freeTally, hx]
    by_cases hj : k = j
    · subst hj
      simp [entryAfterDrops]
    · have hne : ¬ Stream.slot j = .slot k := fun h => hj (Stream.slot.inj h).symm
      simp [hj, hne]

/-- The slot that a descriptor freed makes VACANT (R28). -/
def retiredBy (r : Descriptor) (s : State) : List Slot :=
  match r.stream with
  | .slot k => if (s.entry k).state = .retiring ∧ (s.entry k).held - 1 = 0 ∧ s.engaged ≠ some k then [k] else []
  | .transit => []

theorem retiredRaised_freeDesc {d : DescNo} {s : State} {r : Descriptor} (h : s.desc d = some r) :
    RetiredRaised (retiredBy r s) s (freeDesc d s) := by
  obtain ⟨hcounters, hnotices, hparams, hclock, hengaged, -⟩ := giveBack_frame d r s
  have hback : RetiredRaised [] s (giveBack d r s) := .nil hnotices (by rw [hcounters]) hparams hclock
  rw [freeDesc_of_desc h]
  cases hx : r.stream with
  | transit => simpa only [retiredBy, hx] using hback
  | slot k =>
    simp only [retiredBy, retireCheck, hx, entry_giveBack, hengaged, if_true]
    split
    · have hmodified : RetiredRaised [] s ((giveBack d r s).modifyEntry k fun e => { e with state := .vacant }) :=
        ⟨hback.notices, hback.lost, hback.params, hback.clock⟩
      rw [vacate, entry_giveBack]
      exact hmodified.concat k rfl rfl (raise_params ..) (raise_clock ..)
    · exact hback

theorem freeDesc_butLost {d : DescNo} {s : State} {r : Descriptor} (h : s.desc d = some r) :
    (freeDesc d s).counters.butLost = s.counters.butLost := by
  obtain ⟨hcounters, -⟩ := giveBack_frame d r s
  rw [freeDesc_of_desc h, ← hcounters]
  split
  · unfold retireCheck
    split
    · exact raise_butLost ..
    · rfl
  · rfl

theorem freeDesc_freeCells {d : DescNo} {s : State} {r : Descriptor} (h : s.desc d = some r) :
    (freeDesc d s).pool.freeCells = s.pool.freeCells ++ r.cells := by
  obtain ⟨-, -, -, -, -, hcells⟩ := giveBack_frame d r s
  rw [freeDesc_of_desc h, ← hcells]
  split
  · rw [retireCheck_pool]
  · rfl

@[simp] theorem freeDesc_engaged (d : DescNo) (s : State) : (freeDesc d s).engaged = s.engaged := by
  simp only [State.engaged, State.context, freeDesc_reception]

/-- A descriptor freed, with the end of its slot's retirement (R28, R34, R75). -/
theorem taken_freeDesc {d : DescNo} {s : State} {r : Descriptor} (h : s.desc d = some r) :
    Taken (freeTally r) s (freeDesc d s) where
  engaged := freeDesc_engaged d s
  entry := freeDesc_entry h
  cells := by
    rw [freeDesc_freeCells h]
    exact .refl _
  counters := by simp [freeDesc_butLost h, freeTally]
  retired := by
    refine ⟨retiredBy r s, ?_, fun k => ?_, retiredRaised_freeDesc h⟩
    · unfold retiredBy
      split
      · split <;> simp
      · simp
    · rw [freeDesc_entry h]
      cases hx : r.stream with
      | transit =>
        simp only [retiredBy, hx, entryAfterDrops, freeTally]
        cases (s.entry k).state <;> simp
      | slot j =>
        by_cases hj : k = j
        · subst hj
          simp only [retiredBy, hx, entryAfterDrops, freeTally, if_true]
          cases (s.entry k).state <;> simp
        · have hne : ¬ Stream.slot j = .slot k := fun h => hj (Stream.slot.inj h).symm
          have hnot : k ∉ retiredBy r s := by
            simp only [retiredBy, hx]
            split <;> simp [hj]
          simp only [hnot, entryAfterDrops, freeTally, hx, hne, if_false]
          cases (s.entry k).state <;> simp

/-- Frames taken in two parts. -/
theorem Taken.trans {x y : Tally} {s t u : State} (h : Taken x s t) (h' : Taken y t u) : Taken (x.add y) s u where
  engaged := h'.engaged.trans h.engaged
  entry k := by
    rw [h'.entry, h.entry, h.engaged, entryAfterDrops_add]
    rfl
  cells := (h'.cells.trans (h.cells.append_right _)).trans (by rw [List.append_assoc]; exact .refl _)
  counters := by
    rw [h'.counters, h.counters, GlobalCounters.addDropped_add]
    rfl
  retired := by
    obtain ⟨ks, hn, hks, hraised⟩ := h.retired
    obtain ⟨ks', hn', hks', hraised'⟩ := h'.retired
    have hstate (k : Slot) : (t.entry k).state = (s.entry k).state ∨
        (s.entry k).state = .retiring ∧ (t.entry k).state = .vacant := by
      rw [h.entry]
      simp only [entryAfterDrops]
      split
      · rename_i hc
        exact .inr ⟨hc.1, rfl⟩
      · exact .inl rfl
    have hstate' (k : Slot) : (u.entry k).state = (t.entry k).state ∨
        (t.entry k).state = .retiring ∧ (u.entry k).state = .vacant := by
      rw [h'.entry]
      simp only [entryAfterDrops]
      split
      · rename_i hc
        exact .inr ⟨hc.1, rfl⟩
      · exact .inl rfl
    refine ⟨ks ++ ks', ?_, fun k => ?_, hraised.trans hraised' fun k => ?_⟩
    · refine List.nodup_append.2 ⟨hn, hn', fun k hk j hj hkj => ?_⟩
      subst hkj
      have hvacant := ((hks k).1 hk).2
      rw [((hks' k).1 hj).1] at hvacant
      cases hvacant
    · rw [List.mem_append, hks, hks']
      have h1 := hstate k
      have h2 := hstate' k
      grind
    · rw [h.entry]
      exact ⟨rfl, rfl⟩

/-! ### Lanes that leave a descriptor -/

theorem Taken.refl (s : State) : Taken .zero s s := .of_same rfl rfl rfl rfl rfl rfl rfl

/-- `t` is `s` after frames were taken from the lanes: with a tally, with the descriptors as given, and with everything
else as it was. -/
structure TakenFrom (x : Tally) (after : DescNo → Option Descriptor) (s t : State) : Prop where
  taken : Taken x s t
  frame : outerFrame t = outerFrame s
  desc : ∀ d, t.desc d = after d

/-- The descriptors with one of them replaced. -/
def descsWith (s : State) (d : DescNo) (x : Option Descriptor) : DescNo → Option Descriptor :=
  fun e => if e = d then x else s.desc e

theorem State.desc_setDesc (s : State) (d : DescNo) (x : Option Descriptor) (e : DescNo) :
    (s.setDesc d x).desc e = descsWith s d x e := by
  unfold descsWith
  split
  · rename_i h
    rw [h, State.desc_setDesc_same]
  · rename_i h
    exact State.desc_setDesc_ne s x h

theorem giveBack_desc (d : DescNo) (r : Descriptor) (s : State) (e : DescNo) :
    (giveBack d r s).desc e = descsWith s d none e := by
  rw [← State.desc_setDesc]
  simp only [State.desc, giveBack, State.pool_modifyHeld]
  rfl

theorem freeDesc_desc {d : DescNo} {s : State} {r : Descriptor} (h : s.desc d = some r) (e : DescNo) :
    (freeDesc d s).desc e = descsWith s d none e := by
  rw [← giveBack_desc d r s e, freeDesc_of_desc h]
  split
  · simp only [State.desc, retireCheck_pool]
  · rfl

@[simp] theorem outerFrame_giveBack (d : DescNo) (r : Descriptor) (s : State) :
    outerFrame (giveBack d r s) = outerFrame s := by
  unfold giveBack State.modifyHeld
  cases r.stream <;> rfl

@[simp] theorem outerFrame_freeDesc (d : DescNo) (s : State) : outerFrame (freeDesc d s) = outerFrame s := by
  cases h : s.desc d with
  | none => rw [freeDesc_of_free h]
  | some r =>
    rw [freeDesc_of_desc h]
    split <;> simp

theorem takenFrom_freeDesc {d : DescNo} {s : State} {r : Descriptor} (h : s.desc d = some r) :
    TakenFrom (freeTally r) (descsWith s d none) s (freeDesc d s) :=
  ⟨taken_freeDesc h, outerFrame_freeDesc d s, freeDesc_desc h⟩

/-- What is left of a descriptor that a lane leaves: nothing with the last lane (R104). -/
def leftBy (l : Lane) (r : Descriptor) : Option Descriptor :=
  if r.remaining.without l = ⟨false, false⟩ then none else some { r with remaining := r.remaining.without l }

theorem takenFrom_leaveLane {d : DescNo} {s : State} {r : Descriptor} (h : s.desc d = some r) (l : Lane) :
    TakenFrom (leaveTally l r) (descsWith s d (leftBy l r)) s (leaveLane l d s) := by
  rw [leaveLane_of_desc h]
  unfold leaveTally leftBy
  split
  · exact takenFrom_freeDesc h
  · exact ⟨.of_same rfl rfl rfl rfl rfl rfl rfl, rfl, fun e => State.desc_setDesc s d _ e⟩

/-- A frame lost to a lane is counted, and the lane leaves its descriptor (R36, R104, R109). -/
theorem takenFrom_dropLane {d : DescNo} {s : State} {r : Descriptor} (h : s.desc d = some r) (l : Lane) :
    TakenFrom (dropTally l r) (descsWith s d (leftBy l r)) s (dropLane l d s) := by
  rw [dropLane_of_desc h]
  cases hx : r.stream with
  | slot k =>
    obtain ⟨htaken, hframe, hdesc⟩ := takenFrom_leaveLane (s := s.modifyEntry k (·.laneLost l)) h l
    exact ⟨by rw [dropTally, hx]; exact (taken_laneLost l k s).trans htaken, hframe, hdesc⟩
  | transit =>
    obtain ⟨htaken, hframe, hdesc⟩ :=
      takenFrom_leaveLane (s := s.count fun c => { c with transitDropped := c.transitDropped + 1 }) h l
    exact ⟨by rw [dropTally, hx]; exact (taken_transitDropped l s).trans htaken, hframe, hdesc⟩

/-- Work on each descriptor of a list, each once, that takes its frame and touches no other. -/
theorem takenFrom_foldl {op : State → DescNo → State} {f : DescNo → Tally} {after : DescNo → Option Descriptor}
    {ds : List DescNo} (hn : ds.Nodup) {s : State}
    (hop : ∀ d ∈ ds, ∀ u, outerFrame u = outerFrame s → u.desc d = s.desc d →
      TakenFrom (f d) (descsWith u d (after d)) u (op u d)) :
    TakenFrom (Tally.sum f ds) (fun d => if d ∈ ds then after d else s.desc d) s (ds.foldl op s) := by
  induction ds generalizing s with
  | nil => exact ⟨.refl s, rfl, fun d => by simp⟩
  | cons d ds ih =>
    obtain ⟨hd, hn⟩ := List.nodup_cons.1 hn
    obtain ⟨htaken, hframe, hdesc⟩ := hop d List.mem_cons_self s rfl rfl
    obtain ⟨htaken', hframe', hdesc'⟩ := ih hn (s := op s d) fun e he u hu hue =>
      hop e (List.mem_cons_of_mem d he) u (hu.trans hframe) (by
        have hne : e ≠ d := fun h => hd (h ▸ he)
        rw [hue, hdesc, descsWith, if_neg hne])
    refine ⟨htaken.trans htaken', hframe'.trans hframe, fun e => ?_⟩
    rw [List.foldl_cons, hdesc', hdesc, descsWith]
    by_cases hed : e = d
    · subst hed
      simp [hd]
    · simp [hed]

/-! ### Sums of tallies -/

/-- How often a test holds along a list, as a sum. -/
theorem sum_map_test (p : DescNo → Bool) (ds : List DescNo) :
    (ds.map fun d => if p d = true then 1 else 0).sum = (ds.filter p).length := by
  induction ds with
  | nil => rfl
  | cons d ds ih =>
    rw [List.map_cons, List.sum_cons, ih, List.filter_cons]
    split
    · simp [Nat.add_comm]
    · simp

/-- A count of a sum of tallies is the sum of the counts. -/
theorem Tally.sum_map {g : Tally → Nat} (hzero : g .zero = 0) (hadd : ∀ x y, g (x.add y) = g x + g y)
    (f : DescNo → Tally) (ds : List DescNo) : g (Tally.sum f ds) = (ds.map fun d => g (f d)).sum := by
  induction ds with
  | nil => exact hzero
  | cons d ds ih => rw [Tally.sum, hadd, ih, List.map_cons, List.sum_cons]

/-- A count of a sum of tallies, where each tally counts one or none by a test. -/
theorem Tally.sum_count {g : Tally → Nat} (hzero : g .zero = 0) (hadd : ∀ x y, g (x.add y) = g x + g y)
    {f : DescNo → Tally} {p : DescNo → Bool} (hf : ∀ d, g (f d) = if p d = true then 1 else 0) (ds : List DescNo) :
    g (Tally.sum f ds) = (ds.filter p).length := by
  rw [Tally.sum_map hzero hadd, ← sum_map_test]
  simp only [hf]

theorem Tally.sum_cells (f : DescNo → Tally) (ds : List DescNo) :
    (Tally.sum f ds).cells = ds.flatMap fun d => (f d).cells := by
  induction ds with
  | nil => rfl
  | cons d ds ih =>
    rw [List.flatMap_cons, ← ih]
    rfl

@[simp] theorem leaveTally_lostA (l : Lane) (r : Descriptor) (k : Slot) : (leaveTally l r).lostA k = 0 := by
  unfold leaveTally
  split <;> rfl

@[simp] theorem leaveTally_lostB (l : Lane) (r : Descriptor) (k : Slot) : (leaveTally l r).lostB k = 0 := by
  unfold leaveTally
  split <;> rfl

@[simp] theorem leaveTally_transit (l : Lane) (r : Descriptor) : (leaveTally l r).transit = 0 := by
  unfold leaveTally
  split <;> rfl

theorem leaveTally_freed (l : Lane) (r : Descriptor) (k : Slot) :
    (leaveTally l r).freed k = if r.stream = .slot k ∧ r.remaining.without l = ⟨false, false⟩ then 1 else 0 := by
  unfold leaveTally
  by_cases h : r.remaining.without l = ⟨false, false⟩ <;> simp [h, freeTally, Tally.zero]

theorem leaveTally_cells (l : Lane) (r : Descriptor) :
    (leaveTally l r).cells = if r.remaining.without l = ⟨false, false⟩ then r.cells else [] := by
  unfold leaveTally
  split <;> rfl

end Sys2Proof.Machine

/-! The statement about entry into BLOCKED (R28, R34, R36, R109, R110, R113). -/

namespace Sys2Proof.Machine

open Sys2Proof

/-- What the frame keeps, with the changed fields named. -/
theorem exists_of_outerFrame {s t : State} (h : outerFrame t = outerFrame s) :
    ∃ table descs cells notices counters,
      t =
        { s with
          table := table
          pool := ⟨descs, cells, s.pool.admissionCount⟩
          notices := notices
          counters := counters } :=
  ⟨_, _, _, _, _, eq_of_outerFrame h⟩

/-- What the drops of a lane's queues leave, the descriptors' frames counted. -/
def blockTally (l : Lane) (s : State) (d : DescNo) : Tally :=
  match s.desc d with
  | some r => dropTally l r
  | none => .zero

/-- The lane closed and its queues dropped (R109). -/
def droppedQueues (l : Lane) (s : State) : State :=
  (laneQueues l s).foldl (fun t d => dropLane l d t) (closeLane l s)

theorem takenFrom_droppedQueues {l : Lane} {s : State} (hn : (laneQueues l s).Nodup)
    (hused : ∀ d ∈ laneQueues l s, ∃ r, s.desc d = some r) :
    TakenFrom (Tally.sum (blockTally l s) (laneQueues l s))
      (fun d => if d ∈ laneQueues l s then (s.desc d).bind (leftBy l) else s.desc d) (closeLane l s)
      (droppedQueues l s) := by
  have hclosed (d : DescNo) : (closeLane l s).desc d = s.desc d := by simp only [State.desc, closeLane_pool]
  have hfold := takenFrom_foldl (op := fun t d => dropLane l d t) (f := blockTally l s)
    (after := fun d => (s.desc d).bind (leftBy l)) hn (s := closeLane l s) fun d hd u _ hu => by
      obtain ⟨r, hr⟩ := hused d hd
      rw [hclosed] at hu
      simp only [blockTally, hr, Option.bind_some]
      exact takenFrom_dropLane (hu.trans hr) l
  simp only [hclosed] at hfold
  exact hfold

theorem closeLane_taken (l : Lane) (s : State) : Taken .zero s (closeLane l s) :=
  .of_same (closeLane_table ..) (by rw [closeLane_pool]) (closeLane_counters ..) (closeLane_notices ..)
    (closeLane_params ..) (closeLane_clock ..) (by simp only [State.engaged, State.context, closeLane_reception])

/-- Of the drops of a lane's queues all losses are this lane's. -/
theorem blockTally_lostA (l : Lane) (s : State) (ds : List DescNo) (k : Slot) :
    (Tally.sum (blockTally l s) ds).lostA k =
      if l = .a then (ds.filter fun d => (s.desc d).any fun r => decide (r.stream = .slot k)).length else 0 := by
  have hcount := Tally.sum_count (g := fun x => x.lostA k) rfl (fun _ _ => rfl) (f := blockTally l s)
    (p := fun d => decide (l = .a) && (s.desc d).any fun r => decide (r.stream = .slot k))
    (fun d => by cases hd : s.desc d <;> simp [blockTally, hd, dropTally, Tally.add, lossTally, Tally.zero, and_comm]) ds
  cases l <;> simpa using hcount

theorem blockTally_lostB (l : Lane) (s : State) (ds : List DescNo) (k : Slot) :
    (Tally.sum (blockTally l s) ds).lostB k =
      if l = .b then (ds.filter fun d => (s.desc d).any fun r => decide (r.stream = .slot k)).length else 0 := by
  have hcount := Tally.sum_count (g := fun x => x.lostB k) rfl (fun _ _ => rfl) (f := blockTally l s)
    (p := fun d => decide (l = .b) && (s.desc d).any fun r => decide (r.stream = .slot k))
    (fun d => by cases hd : s.desc d <;> simp [blockTally, hd, dropTally, Tally.add, lossTally, Tally.zero, and_comm]) ds
  cases l <;> simpa using hcount

theorem blockTally_freed (l : Lane) (s : State) (ds : List DescNo) (k : Slot) :
    (Tally.sum (blockTally l s) ds).freed k =
      (ds.filter fun d => (s.desc d).any fun r =>
        decide (r.stream = .slot k) && decide (r.remaining.without l = ⟨false, false⟩)).length :=
  Tally.sum_count (g := fun x => x.freed k) rfl (fun _ _ => rfl)
    (fun d => by
      cases hd : s.desc d <;> simp [blockTally, hd, dropTally, Tally.add, lossTally, leaveTally_freed, Tally.zero]) ds

theorem blockTally_transit (l : Lane) (s : State) (ds : List DescNo) :
    (Tally.sum (blockTally l s) ds).transit =
      (ds.filter fun d => (s.desc d).any fun r => decide (r.stream = .transit)).length :=
  Tally.sum_count (g := Tally.transit) rfl (fun _ _ => rfl)
    (fun d => by cases hd : s.desc d <;> simp [blockTally, hd, dropTally, Tally.add, lossTally, Tally.zero]) ds

theorem blockTally_cells (l : Lane) (s : State) (d : DescNo) :
    (blockTally l s d).cells =
      match s.desc d with
      | some r => if r.remaining.without l = ⟨false, false⟩ then r.cells else []
      | none => [] := by
  cases hd : s.desc d <;> simp [blockTally, hd, dropTally, Tally.add, lossTally, leaveTally_cells, Tally.zero]

@[simp] theorem outerFrame_dropLane (l : Lane) (d : DescNo) (s : State) :
    outerFrame (dropLane l d s) = outerFrame s := by
  cases h : s.desc d with
  | none => simp only [dropLane, h]
  | some r => exact (takenFrom_dropLane h l).frame

/-- The lane's notice raised after its drops (R109). -/
def blockedNoticed (l : Lane) (cause : BlockCause) (s : State) : State :=
  raise .laneBlocked none noTag (detail16 (laneByte l ++ causeByte cause) (BitVec.ofNat 16 (laneQueues l s).length))
    (droppedQueues l s)

theorem outerFrame_blockedNoticed (l : Lane) (cause : BlockCause) (s : State) :
    outerFrame (blockedNoticed l cause s) = outerFrame (closeLane l s) :=
  (outerFrame_raise ..).trans (foldl_keeps outerFrame (fun s d => outerFrame_dropLane l d s) _ _)

/-- The replies are discarded where the lane is the reply lane (R110). -/
theorem enterBlocked_eq (l : Lane) (cause : BlockCause) (s : State) :
    enterBlocked l cause s =
      { blockedNoticed l cause s with
        agent := if s.params.replyLane = l then { s.agent with replies := [] } else s.agent
        counters :=
          { (blockedNoticed l cause s).counters with
            repliesLost :=
              if s.params.replyLane = l then
                (blockedNoticed l cause s).counters.repliesLost + BitVec.ofNat 32 s.agent.replies.length
              else (blockedNoticed l cause s).counters.repliesLost } } := by
  have hframe := outerFrame_blockedNoticed l cause s
  have hagent : (blockedNoticed l cause s).agent = s.agent :=
    (congrArg State.agent hframe).trans (closeLane_agent l s)
  have hparams : (blockedNoticed l cause s).params = s.params :=
    (congrArg State.params hframe).trans (closeLane_params l s)
  have h : enterBlocked l cause s =
      if (blockedNoticed l cause s).params.replyLane = l then discardReplies (blockedNoticed l cause s)
      else blockedNoticed l cause s := rfl
  rw [h, hparams, ← hagent]
  split <;> rfl

theorem lane_of_outerFrame {s t : State} (h : outerFrame t = outerFrame s) (l : Lane) : t.lane l = s.lane l := by
  have hA : (outerFrame t).laneA = (outerFrame s).laneA := congrArg State.laneA h
  have hB : (outerFrame t).laneB = (outerFrame s).laneB := congrArg State.laneB h
  cases l with
  | a => exact hA
  | b => exact hB

theorem enterBlocked_lane (l : Lane) (cause : BlockCause) (s : State) (j : Lane) :
    (enterBlocked l cause s).lane j = (closeLane l s).lane j := by
  rw [← lane_of_outerFrame (outerFrame_blockedNoticed l cause s), enterBlocked_eq]
  cases j <;> rfl

theorem closeLane_other {l j : Lane} (h : j ≠ l) (s : State) : (closeLane l s).lane j = s.lane j := by
  cases l with
  | a => cases j with
    | a => exact absurd rfl h
    | b => rfl
  | b => cases j with
    | a => rfl
    | b => exact absurd rfl h

theorem enterBlocked_transitQueue (l : Lane) (cause : BlockCause) (s : State) :
    (enterBlocked l cause s).transitQueue = (closeLane l s).transitQueue := by
  have h := congrArg State.transitQueue (outerFrame_blockedNoticed l cause s)
  rw [enterBlocked_eq]
  exact h

/-- Transit dropped raised in counters that stay but for notices lost. -/
theorem counters_of_addDropped {c c' : GlobalCounters} {n : Nat} (h : c.butLost = c'.butLost.addDropped n) {x : Counter}
    (hlost : c.noticesLost = x) :
    c = { c' with noticesLost := x, transitDropped := c'.transitDropped + BitVec.ofNat 32 n } :=
  GlobalCounters.eq_of_butLost h hlost

/-- Settles O28: the drops counted by their tally, then the lane's notice and its replies. -/
theorem enteringBlockedDropsTheQueues : Obligations.EnteringBlockedDropsTheQueues := by
  intro l cause s hn hused t dropped lane code gone such lost transitLost
  obtain ⟨htaken, -, hdesc⟩ := takenFrom_droppedQueues hn hused
  replace htaken := (closeLane_taken l s).trans htaken
  rw [Tally.zero_add] at htaken
  have hpool : t.pool = (droppedQueues l s).pool :=
    (congrArg State.pool (enterBlocked_eq l cause s)).trans (raise_pool ..)
  have htable : t.table = (droppedQueues l s).table :=
    (congrArg State.table (enterBlocked_eq l cause s)).trans (raise_table ..)
  have hentry (k : Slot) : t.entry k = (droppedQueues l s).entry k := by rw [State.entry, htable, State.entry]
  have hqueue := enterBlocked_transitQueue l cause s
  refine ⟨?_, ?_, fun j hj => ?_, fun d => ?_, fun k => ?_, ?_, ?_, ?_⟩
  · refine (enterBlocked_lane l cause s l).trans ?_
    cases l <;> rfl
  · have hempty := congrArg LaneUnit.releaseQueue (enterBlocked_lane l cause s l)
    cases l with
    | a => simp only [t, laneQueues, hempty, hqueue]; rfl
    | b => simp only [t, laneQueues, hempty]; rfl
  · exact (enterBlocked_lane ..).trans (closeLane_other hj s)
  · rw [State.desc, hpool, ← State.desc, hdesc]
    simp only [gone, leftBy, decide_eq_true_eq]
    rfl
  · rw [hentry, htaken.entry, blockTally_lostA, blockTally_lostB, blockTally_freed]
  · rw [hpool]
    refine htaken.cells.trans ?_
    rw [Tally.sum_cells]
    simp only [blockTally_cells, gone, decide_eq_true_eq]
    exact .refl _
  · obtain ⟨retired, hnodup, hmem, hraised⟩ := htaken.retired
    refine ⟨retired, hnodup, fun k => by rw [hmem, hentry], ?_⟩
    intro raised
    have hparams : (droppedQueues l s).params = (raiseRetired retired s).params := by
      rw [hraised.params, raiseRetired_params]
    have hclock : (droppedQueues l s).clock = (raiseRetired retired s).clock := by
      rw [hraised.clock, raiseRetired_clock]
    have hdetail : detail16 (laneByte l ++ causeByte cause) (BitVec.ofNat 16 (laneQueues l s).length) =
        lane ++ code ++ BitVec.ofNat 16 dropped.length := by
      cases l <;> cases cause <;> rfl
    have hnotices : (blockedNoticed l cause s).notices = raised.notices := by
      rw [blockedNoticed, hdetail]
      exact raise_notices_congr hparams hclock hraised.notices ..
    have hlost : (blockedNoticed l cause s).counters.noticesLost = raised.counters.noticesLost := by
      rw [blockedNoticed, hdetail]
      exact raise_noticesLost_congr hparams hraised.notices hraised.lost ..
    have hbut : (blockedNoticed l cause s).counters.butLost =
        s.counters.butLost.addDropped (such fun r => decide (r.stream = .transit)) := by
      rw [blockedNoticed, raise_butLost, htaken.counters, blockTally_transit]
    have hcounters := counters_of_addDropped hbut hlost
    have hsame : raised.counters = { s.counters with noticesLost := raised.counters.noticesLost } :=
      GlobalCounters.eq_of_butLost ((raise_butLost ..).trans (raiseRetired_butLost ..)) rfl
    refine ⟨(congrArg State.notices (enterBlocked_eq l cause s)).trans hnotices, ?_⟩
    refine (congrArg State.counters (enterBlocked_eq l cause s)).trans ?_
    simp only [hcounters]
    rw [hsame]
  · obtain ⟨table, descs, cells, notices, counters, h⟩ := exists_of_outerFrame (outerFrame_blockedNoticed l cause s)
    have ht : t = _ := enterBlocked_eq l cause s
    rw [ht, h]
    cases l <;> simp [closeLane, State.setLane]

end Sys2Proof.Machine

/-! The statement about FLUSH (R28, R34 to R36, R54, R93, R94, R148). -/

namespace Sys2Proof.Machine

open Sys2Proof

/-! ### A HELD descriptor at a FLUSH -/

/-- The lanes of a remaining set that are sending the descriptor, and so keep it (R94). -/
def keptLanes (sends : Lane → Bool) (r : Descriptor) : LaneSet := ⟨r.remaining.a && sends .a, r.remaining.b && sends .b⟩

/-- What a FLUSH leaves of a HELD descriptor: nothing where it loses every lane it has left (R94). -/
def heldAfter (sends : Lane → Bool) (r : Descriptor) : Option Descriptor :=
  if keptLanes sends r = ⟨false, false⟩ ∧ r.remaining ≠ ⟨false, false⟩ then none
  else some { r with remaining := keptLanes sends r }

/-- The frame lost to a lane that is not sending it. -/
def lossUnlessSent (sends : Lane → Bool) (r : Descriptor) (l : Lane) : Tally :=
  if (r.remaining.has l && !sends l) = true then lossTally l r.stream else .zero

/-- What a FLUSH takes with a HELD descriptor (R94). -/
def heldTally (sends : Lane → Bool) (r : Descriptor) : Tally :=
  ((lossUnlessSent sends r .a).add (lossUnlessSent sends r .b)).add
    (if heldAfter sends r = none then freeTally r else .zero)

theorem Tally.add_assoc (x y z : Tally) : (x.add y).add z = x.add (y.add z) := by
  simp [Tally.add, Nat.add_assoc]

/-- Frames taken in two parts with one descriptor. -/
theorem TakenFrom.trans {x y : Tally} {d : DescNo} {o p : Option Descriptor} {s t u : State}
    (h : TakenFrom x (descsWith s d o) s t) (h' : TakenFrom y (descsWith t d p) t u) :
    TakenFrom (x.add y) (descsWith s d p) s u where
  taken := h.taken.trans h'.taken
  frame := h'.frame.trans h.frame
  desc e := by
    rw [h'.desc, descsWith, h.desc, descsWith, descsWith]
    split <;> rfl

theorem takenFrom_keep {d : DescNo} {s : State} : TakenFrom .zero (descsWith s d (s.desc d)) s s where
  taken := .refl s
  frame := rfl
  desc e := by
    unfold descsWith
    split
    · rename_i h
      rw [h]
    · rfl

theorem kept_of_stays {sends : Lane → Bool} {x : Bool} {l : Lane} (h : (x && !sends l) = false) :
    (x && sends l) = x := by
  cases x with
  | false => rfl
  | true => simpa using h

/-- Where one lane alone leaves a HELD descriptor, the FLUSH is that lane's leaving. -/
theorem heldAfter_eq_leftBy {sends : Lane → Bool} {r : Descriptor} {l : Lane}
    (hkept : keptLanes sends r = r.remaining.without l) (h : r.remaining ≠ ⟨false, false⟩) :
    heldAfter sends r = leftBy l r := by
  simp only [heldAfter, leftBy, hkept, h, ne_eq, not_false_eq_true, and_true]

theorem freeTally_of_leftBy (l : Lane) (r : Descriptor) :
    (if leftBy l r = none then freeTally r else .zero) = leaveTally l r := by
  unfold leftBy leaveTally
  split <;> simp

/-- The lanes that are not sending a descriptor leave it one after the other (R94). -/
theorem takenFrom_flushLanes {d : DescNo} {s : State} {r : Descriptor} (h : s.desc d = some r) (sends : Lane → Bool) :
    TakenFrom (heldTally sends r) (descsWith s d (heldAfter sends r)) s
      ([Lane.a, Lane.b].foldl (fun t l => if r.remaining.has l && !sends l then dropLane l d t else t) s) := by
  rw [List.foldl_cons, List.foldl_cons, List.foldl_nil, heldTally, lossUnlessSent, lossUnlessSent]
  cases hA : r.remaining.has .a && !sends .a with
  | false =>
    have ha : (r.remaining.a && sends .a) = r.remaining.a := kept_of_stays hA
    cases hB : r.remaining.has .b && !sends .b with
    | false =>
      have hb : (r.remaining.b && sends .b) = r.remaining.b := kept_of_stays hB
      have hafter : heldAfter sends r = some r := by
        rw [heldAfter, keptLanes, ha, hb, if_neg fun h => h.2 h.1]
      simpa [hafter, h] using takenFrom_keep (d := d) (s := s)
    | true =>
      obtain ⟨hb, hs⟩ := Bool.and_eq_true_iff.1 hB
      have hkept : keptLanes sends r = r.remaining.without .b := by
        rw [keptLanes, ha, (Bool.not_eq_true' _).mp hs, Bool.and_false]
        rfl
      have hused : r.remaining ≠ ⟨false, false⟩ := by
        intro hempty
        rw [hempty] at hb
        cases hb
      rw [heldAfter_eq_leftBy hkept hused, freeTally_of_leftBy]
      simpa [dropTally] using takenFrom_dropLane h .b
  | true =>
    obtain ⟨ha, hs⟩ := Bool.and_eq_true_iff.1 hA
    have hsa : (r.remaining.a && sends .a) = false := by rw [(Bool.not_eq_true' _).mp hs, Bool.and_false]
    have hused : r.remaining ≠ ⟨false, false⟩ := by
      intro hempty
      rw [hempty] at ha
      cases ha
    cases hB : r.remaining.has .b && !sends .b with
    | false =>
      have hkept : keptLanes sends r = r.remaining.without .a := by
        have hb : (r.remaining.b && sends .b) = r.remaining.b := kept_of_stays hB
        rw [keptLanes, hsa, hb]
        rfl
      rw [heldAfter_eq_leftBy hkept hused, freeTally_of_leftBy]
      simpa [dropTally] using takenFrom_dropLane h .a
    | true =>
      obtain ⟨hb, hs⟩ := Bool.and_eq_true_iff.1 hB
      have hafter : heldAfter sends r = none := by
        have hkept : keptLanes sends r = ⟨false, false⟩ := by
          rw [keptLanes, hsa, (Bool.not_eq_true' _).mp hs, Bool.and_false]
        rw [heldAfter, if_pos ⟨hkept, hused⟩]
      have hwithout : r.remaining.without .a = ⟨false, true⟩ := congrArg (LaneSet.mk false) hb
      have hleft : leftBy .a r = some { r with remaining := ⟨false, true⟩ } := by
        rw [leftBy, hwithout, if_neg (by decide)]
      have htally : dropTally .a r = lossTally .a r.stream := by
        rw [dropTally, leaveTally, hwithout, if_neg (by decide), Tally.add_zero]
      have hfirst := takenFrom_dropLane h .a
      rw [htally, hleft] at hfirst
      have hdesc : (dropLane .a d s).desc d = some { r with remaining := ⟨false, true⟩ } := by
        rw [hfirst.desc, descsWith, if_pos rfl]
      have hsecond : TakenFrom ((lossTally .b r.stream).add (freeTally r)) (descsWith (dropLane .a d s) d none)
          (dropLane .a d s) (dropLane .b d (dropLane .a d s)) := takenFrom_dropLane hdesc .b
      simpa [hafter, Tally.add_assoc] using hfirst.trans hsecond

/-! ### The reservation of the frame in reception -/

/-- The descriptor that the frame in reception has reserved. -/
def reservedDesc (s : State) : Option DescNo := s.context.bind (·.reservation)

/-- A FLUSH gives back what the frame in reception has reserved, with its loss (R93). -/
def releaseReserved (s : State) : State :=
  match reservedDesc s with
  | none => s
  | some d =>
    freeDesc d
      (match (s.desc d).map (·.stream) with
      | some Stream.transit => s.count fun g => { g with transitDropped := g.transitDropped + 1 }
      | _ => s)

/-- The context of the frame in reception after a FLUSH (R93). -/
def markFlushed (c : Context) : Context := { c with flushed := true, reservation := none }

theorem flushReservation_eq (s : State) : flushReservation s = (releaseReserved s).modifyContext markFlushed := by
  unfold flushReservation releaseReserved reservedDesc
  cases hd : s.context.bind (·.reservation) with
  | some d => rfl
  | none =>
    simp only [State.modifyContext]
    cases hr : s.reception with
    | none => simp
    | some x =>
      cases hc : x.context with
      | none => simp [hc]
      | some c =>
        have hnone : c.reservation = none := by simpa [State.context, hr, hc] using hd
        simp [hc, markFlushed, hnone]

/-- What a FLUSH takes with a descriptor: a reserved one is freed, a transit frame in it lost; a HELD one leaves the
lanes that are not sending it. -/
def flushTally (s : State) (d : DescNo) : Tally :=
  match s.desc d with
  | none => .zero
  | some r =>
    if reservedDesc s = some d then (if r.stream = .transit then lossTally .a .transit else .zero).add (freeTally r)
    else if r.condition = .held then heldTally (sendingOn s d) r
    else .zero

/-- What a FLUSH leaves of a descriptor. -/
def flushAfter (s : State) (d : DescNo) (r : Descriptor) : Option Descriptor :=
  if reservedDesc s = some d then none
  else if r.condition = .reserved then some r
  else heldAfter (sendingOn s d) r

/-- What is taken with the reserved descriptor. -/
def reservedTally (s : State) : Tally :=
  match reservedDesc s with
  | none => .zero
  | some d => flushTally s d

/-- The descriptors once the reservation is given back. -/
def descsReleased (s : State) (d : DescNo) : Option Descriptor := if reservedDesc s = some d then none else s.desc d

theorem takenFrom_releaseReserved (s : State) :
    TakenFrom (reservedTally s) (descsReleased s) s (releaseReserved s) := by
  unfold reservedTally releaseReserved
  cases hd : reservedDesc s with
  | none => exact ⟨.refl s, rfl, fun d => by simp [descsReleased, hd]⟩
  | some d =>
    have hreleased : descsReleased s = descsWith s d none := by
      funext e
      simp only [descsReleased, descsWith, hd, Option.some_inj]
      congr 1
      exact propext eq_comm
    rw [hreleased]
    cases hr : s.desc d with
    | none =>
      simp only [flushTally, hr, Option.map_none]
      rw [freeDesc_of_free hr, ← hr]
      exact takenFrom_keep
    | some r =>
      cases hx : r.stream with
      | slot k =>
        simp only [flushTally, hr, hd, Option.map_some, hx, if_true]
        simpa using takenFrom_freeDesc hr
      | transit =>
        simp only [flushTally, hr, hd, Option.map_some, hx, if_true]
        obtain ⟨htaken, hframe, hdesc⟩ :=
          takenFrom_freeDesc (s := s.count fun g => { g with transitDropped := g.transitDropped + 1 }) hr
        exact ⟨(taken_transitDropped .a s).trans htaken, hframe, hdesc⟩

/-! ### All descriptors -/

/-- The state at which the descriptors are flushed, one by one. -/
def flushStart (s : State) : State := emptyQueues (flushReservation s)

/-- The state once they are. -/
def flushEnd (s : State) : State := allDescs.foldl flushDescriptor (flushStart s)

theorem outerFrame_flushStart (s : State) :
    outerFrame (flushStart s) = outerFrame (emptyQueues (s.modifyContext markFlushed)) := by
  have h := congrArg (fun u => emptyQueues (u.modifyContext markFlushed)) (takenFrom_releaseReserved s).frame
  rw [flushStart, flushReservation_eq]
  exact h

theorem engaged_markFlushed (s : State) : (s.modifyContext markFlushed).engaged = s.engaged := by
  simp only [State.engaged, State.context, State.modifyContext]
  cases hr : s.reception with
  | none => rfl
  | some x => cases hc : x.context <;> simp [hc, markFlushed]

theorem taken_flushStart (s : State) : Taken (reservedTally s) s (flushStart s) := by
  have hmark : Taken .zero (releaseReserved s) (flushStart s) := by
    rw [flushStart, flushReservation_eq]
    exact .of_same rfl rfl rfl rfl rfl rfl (engaged_markFlushed _)
  simpa using (takenFrom_releaseReserved s).taken.trans hmark

theorem flushStart_desc (s : State) (d : DescNo) : (flushStart s).desc d = descsReleased s d := by
  rw [← (takenFrom_releaseReserved s).desc d, flushStart, flushReservation_eq]
  rfl

theorem sendingOn_of_sending {s t : State} (h : ∀ l, (t.lane l).sending = (s.lane l).sending) (d : DescNo) :
    sendingOn t d = sendingOn s d := by
  funext l
  rw [sendingOn, h, sendingOn]

theorem sendingOn_of_flushStart {s t : State} (h : outerFrame t = outerFrame (flushStart s)) (d : DescNo) :
    sendingOn t d = sendingOn s d := by
  have hlane := lane_of_outerFrame (h.trans (outerFrame_flushStart s))
  refine sendingOn_of_sending (fun l => ?_) d
  rw [hlane]
  cases l <;> rfl

/-- What is taken with a descriptor once the reservation is given back. -/
def restTally (s : State) (d : DescNo) : Tally := if reservedDesc s = some d then .zero else flushTally s d

theorem takenFrom_flushDescriptor {s t : State} {d : DescNo} (hframe : outerFrame t = outerFrame (flushStart s))
    (hdesc : t.desc d = descsReleased s d) :
    TakenFrom (restTally s d) (descsWith t d ((s.desc d).bind (flushAfter s d))) t (flushDescriptor t d) := by
  have hkeep := takenFrom_keep (d := d) (s := t)
  unfold restTally flushDescriptor
  unfold descsReleased at hdesc
  by_cases hr : reservedDesc s = some d
  · have hnone : (s.desc d).bind (flushAfter s d) = none := by simp [flushAfter, hr]
    rw [if_pos hr] at hdesc ⊢
    rw [hdesc] at hkeep
    rw [hnone, hdesc]
    exact hkeep
  · rw [if_neg hr] at hdesc ⊢
    cases hd : s.desc d with
    | none =>
      rw [hdesc, hd] at hkeep
      simpa [hdesc, hd, flushTally] using hkeep
    | some r =>
      rw [hd] at hdesc
      simp only [hdesc, flushTally, hd, hr, flushAfter, Option.bind_some, if_false]
      rw [hdesc] at hkeep
      cases hc : r.condition with
      | held =>
        rw [sendingOn_of_flushStart hframe]
        exact takenFrom_flushLanes hdesc (sendingOn s d)
      | reserved => exact hkeep

theorem takenFrom_flushEnd (s : State) :
    TakenFrom (Tally.sum (restTally s) allDescs)
      (fun d => if d ∈ allDescs then (s.desc d).bind (flushAfter s d) else (flushStart s).desc d) (flushStart s)
      (flushEnd s) :=
  takenFrom_foldl (List.nodup_finRange 256) fun d _ _ hframe hdesc =>
    takenFrom_flushDescriptor hframe (hdesc.trans (flushStart_desc s d))

/-! ### The tallies of one FLUSH -/

/-- Two tallies with the same counts and the same cells. -/
structure Tally.Same (x y : Tally) : Prop where
  lostA : x.lostA = y.lostA
  lostB : x.lostB = y.lostB
  freed : x.freed = y.freed
  transit : x.transit = y.transit
  cells : x.cells.Perm y.cells

theorem Tally.Same.refl (x : Tally) : x.Same x := ⟨rfl, rfl, rfl, rfl, .refl _⟩

theorem Tally.Same.trans {x y z : Tally} (h : x.Same y) (h' : y.Same z) : x.Same z :=
  ⟨h.lostA.trans h'.lostA, h.lostB.trans h'.lostB, h.freed.trans h'.freed, h.transit.trans h'.transit,
    h.cells.trans h'.cells⟩

theorem Tally.Same.add_left {x y : Tally} (h : x.Same y) (z : Tally) : (z.add x).Same (z.add y) := by
  obtain ⟨hA, hB, hfreed, htransit, hcells⟩ := h
  refine ⟨?_, ?_, ?_, ?_, hcells.append_left _⟩ <;> simp only [Tally.add, hA, hB, hfreed, htransit]

theorem Tally.add_left_comm_same (x y z : Tally) : (x.add (y.add z)).Same (y.add (x.add z)) := by
  refine ⟨?_, ?_, ?_, ?_, List.perm_append_comm_assoc ..⟩ <;> simp only [Tally.add, Nat.add_left_comm]

theorem Taken.congr {x y : Tally} {s t : State} (h : Taken x s t) (hsame : x.Same y) : Taken y s t where
  engaged := h.engaged
  entry k := by rw [h.entry, hsame.lostA, hsame.lostB, hsame.freed]
  cells := h.cells.trans (hsame.cells.append_left _)
  counters := by rw [h.counters, hsame.transit]
  retired := h.retired

theorem Tally.sum_congr {f g : DescNo → Tally} {ds : List DescNo} (h : ∀ d ∈ ds, f d = g d) :
    Tally.sum f ds = Tally.sum g ds := by
  induction ds with
  | nil => rfl
  | cons d ds ih =>
    rw [Tally.sum, Tally.sum, h d List.mem_cons_self, ih fun e he => h e (List.mem_cons_of_mem d he)]

/-- One descriptor's tally taken out of a sum and put in front. -/
theorem Tally.sum_split {f : DescNo → Tally} {d : DescNo} {ds : List DescNo} (hn : ds.Nodup) (hd : d ∈ ds) :
    ((f d).add (Tally.sum (fun e => if d = e then .zero else f e) ds)).Same (Tally.sum f ds) := by
  induction ds with
  | nil => cases hd
  | cons e ds ih =>
    obtain ⟨he, hn⟩ := List.nodup_cons.1 hn
    by_cases hde : d = e
    · subst hde
      have hrest : Tally.sum (fun e => if d = e then .zero else f e) ds = Tally.sum f ds :=
        Tally.sum_congr fun j hj => if_neg fun h : d = j => he (h ▸ hj)
      rw [Tally.sum, Tally.sum, if_pos rfl, Tally.zero_add, hrest]
      exact .refl _
    · have hmem : d ∈ ds := (List.mem_cons.1 hd).resolve_left hde
      rw [Tally.sum, Tally.sum, if_neg hde]
      exact (Tally.add_left_comm_same ..).trans ((ih hn hmem).add_left (f e))

/-- A FLUSH takes with each descriptor, the reserved one first, what its tally says. -/
theorem taken_flushEnd (s : State) : Taken (Tally.sum (flushTally s) allDescs) s (flushEnd s) := by
  refine ((taken_flushStart s).trans (takenFrom_flushEnd s).taken).congr ?_
  unfold reservedTally
  cases hd : reservedDesc s with
  | none =>
    have hrest : restTally s = flushTally s := by
      funext d
      simp [restTally, hd]
    rw [hrest, Tally.zero_add]
    exact .refl _
  | some d =>
    have hrest : restTally s = fun e => if d = e then .zero else flushTally s e := by
      funext e
      simp only [restTally, hd, Option.some_inj]
    rw [hrest]
    exact Tally.sum_split (List.nodup_finRange 256) (List.mem_finRange d)

theorem flushEnd_desc (s : State) (d : DescNo) : (flushEnd s).desc d = (s.desc d).bind (flushAfter s d) := by
  rw [(takenFrom_flushEnd s).desc]
  exact if_pos (List.mem_finRange d)

theorem outerFrame_flushEnd (s : State) :
    outerFrame (flushEnd s) = outerFrame (emptyQueues (s.modifyContext markFlushed)) :=
  (takenFrom_flushEnd s).frame.trans (outerFrame_flushStart s)

/-! ### The counts of one FLUSH -/

/-- The descriptors in use that pass a test. -/
def descsSuch (s : State) (p : DescNo → Descriptor → Bool) : List DescNo :=
  allDescs.filter fun d =>
    match s.desc d with
    | some r => p d r
    | none => false

/-- A FLUSH loses a stream's frame to a lane (R94). -/
def flushLoses (s : State) (x : Stream) (l : Lane) (d : DescNo) (r : Descriptor) : Bool :=
  decide (r.stream = x ∧ reservedDesc s ≠ some d ∧ r.condition = .held ∧ r.remaining.has l = true ∧
    sendingOn s d l = false)

/-- A FLUSH frees a descriptor of a stream. -/
def flushFrees (s : State) (x : Stream) (d : DescNo) (r : Descriptor) : Bool :=
  decide (r.stream = x ∧ flushAfter s d r = none)

/-- The frame in reception is a transit frame with a descriptor reserved (R93). -/
def flushDropsReserved (s : State) (d : DescNo) (r : Descriptor) : Bool :=
  decide (reservedDesc s = some d ∧ r.stream = .transit)

/-- A test of a descriptor as a number. -/
def oneIf (s : State) (p : DescNo → Descriptor → Bool) (d : DescNo) : Nat :=
  if (match s.desc d with
    | some r => p d r
    | none => false) = true then 1 else 0

theorem sum_map_oneIf (s : State) (p : DescNo → Descriptor → Bool) :
    (allDescs.map (oneIf s p)).sum = (descsSuch s p).length := sum_map_test ..

theorem oneIf_of_free {s : State} {d : DescNo} (h : s.desc d = none) (p : DescNo → Descriptor → Bool) :
    oneIf s p d = 0 := by simp [oneIf, h]

theorem oneIf_of_desc {s : State} {d : DescNo} {r : Descriptor} (h : s.desc d = some r)
    (p : DescNo → Descriptor → Bool) : oneIf s p d = if p d r = true then 1 else 0 := by simp [oneIf, h]

/-- A tally that is taken only where a test holds. -/
def Tally.when (p : Bool) (x : Tally) : Tally := if p = true then x else .zero

theorem Tally.when_lostA (p : Bool) (x : Tally) (k : Slot) :
    (x.when p).lostA k = if p = true then x.lostA k else 0 := by
  cases p <;> rfl

theorem Tally.when_lostB (p : Bool) (x : Tally) (k : Slot) :
    (x.when p).lostB k = if p = true then x.lostB k else 0 := by
  cases p <;> rfl

theorem Tally.when_freed (p : Bool) (x : Tally) (k : Slot) :
    (x.when p).freed k = if p = true then x.freed k else 0 := by
  cases p <;> rfl

theorem Tally.when_transit (p : Bool) (x : Tally) : (x.when p).transit = if p = true then x.transit else 0 := by
  cases p <;> rfl

theorem Tally.when_cells (p : Bool) (x : Tally) : (x.when p).cells = if p = true then x.cells else [] := by
  cases p <;> rfl

/-- The tests about a stream are the tests about the descriptor's own stream. -/
theorem flushLoses_eq (s : State) (x : Stream) (l : Lane) (d : DescNo) (r : Descriptor) :
    flushLoses s x l d r = (decide (r.stream = x) && flushLoses s r.stream l d r) := by
  simp [flushLoses]

theorem flushFrees_eq (s : State) (x : Stream) (d : DescNo) (r : Descriptor) :
    flushFrees s x d r = (decide (r.stream = x) && flushFrees s r.stream d r) := by
  simp [flushFrees]

theorem flushTally_of_free {s : State} {d : DescNo} (h : s.desc d = none) : flushTally s d = .zero := by
  simp [flushTally, h]

/-- What is taken with a descriptor in use is the sum of the two lanes' losses, of the transit frame that the reservation
held, and of the descriptor freed. -/
theorem flushTally_of_desc {s : State} {d : DescNo} {r : Descriptor} (h : s.desc d = some r) :
    flushTally s d =
      ((((lossTally .a r.stream).when (flushLoses s r.stream .a d r)).add
        ((lossTally .b r.stream).when (flushLoses s r.stream .b d r))).add
        ((lossTally .a .transit).when (flushDropsReserved s d r))).add
        ((freeTally r).when (flushFrees s r.stream d r)) := by
  simp only [flushTally, h, flushLoses, flushDropsReserved, flushFrees, flushAfter, Tally.when]
  by_cases hr : reservedDesc s = some d
  · simp [hr]
  · by_cases hc : r.condition = .held
    · simp [hr, hc, heldTally, lossUnlessSent]
    · have hreserved : r.condition = .reserved := by
        revert hc
        cases r.condition <;> simp
      simp [hr, hreserved]

theorem flushTally_lostA (s : State) (k : Slot) (d : DescNo) :
    (flushTally s d).lostA k = oneIf s (flushLoses s (.slot k) .a) d := by
  cases hd : s.desc d with
  | none => rw [flushTally_of_free hd, oneIf_of_free hd, Tally.zero]
  | some r =>
    rw [flushTally_of_desc hd, oneIf_of_desc hd, flushLoses_eq s (.slot k)]
    by_cases hx : r.stream = .slot k <;> simp [hx, Tally.add, Tally.when_lostA, lossTally, freeTally]

theorem flushTally_lostB (s : State) (k : Slot) (d : DescNo) :
    (flushTally s d).lostB k = oneIf s (flushLoses s (.slot k) .b) d := by
  cases hd : s.desc d with
  | none => rw [flushTally_of_free hd, oneIf_of_free hd, Tally.zero]
  | some r =>
    rw [flushTally_of_desc hd, oneIf_of_desc hd, flushLoses_eq s (.slot k)]
    by_cases hx : r.stream = .slot k <;> simp [hx, Tally.add, Tally.when_lostB, lossTally, freeTally]

theorem flushTally_freed (s : State) (k : Slot) (d : DescNo) :
    (flushTally s d).freed k = oneIf s (flushFrees s (.slot k)) d := by
  cases hd : s.desc d with
  | none => rw [flushTally_of_free hd, oneIf_of_free hd, Tally.zero]
  | some r =>
    rw [flushTally_of_desc hd, oneIf_of_desc hd, flushFrees_eq s (.slot k)]
    by_cases hx : r.stream = .slot k <;> simp [hx, Tally.add, Tally.when_freed, lossTally, freeTally]

theorem flushTally_transit (s : State) (d : DescNo) :
    (flushTally s d).transit =
      oneIf s (flushDropsReserved s) d + oneIf s (flushLoses s .transit .a) d +
        oneIf s (flushLoses s .transit .b) d := by
  cases hd : s.desc d with
  | none => simp only [flushTally_of_free hd, oneIf_of_free hd, Tally.zero]
  | some r =>
    simp only [flushTally_of_desc hd, oneIf_of_desc hd]
    rw [flushLoses_eq s .transit .a, flushLoses_eq s .transit .b]
    by_cases hx : r.stream = .transit
    · simp [hx, Tally.add, Tally.when_transit, lossTally, freeTally]
      omega
    · simp [hx, Tally.add, Tally.when_transit, lossTally, freeTally, flushDropsReserved]

theorem flushTally_cells (s : State) (d : DescNo) :
    (flushTally s d).cells =
      match s.desc d with
      | some r => if flushAfter s d r = none then r.cells else []
      | none => [] := by
  cases hd : s.desc d with
  | none => simp only [flushTally_of_free hd, Tally.zero]
  | some r =>
    simp only [flushTally_of_desc hd, Tally.add, Tally.when_cells, lossTally, freeTally, flushFrees, true_and,
      decide_eq_true_eq, ite_self, List.nil_append]

theorem flushTally_sum_lostA (s : State) (k : Slot) :
    (Tally.sum (flushTally s) allDescs).lostA k = (descsSuch s (flushLoses s (.slot k) .a)).length := by
  rw [Tally.sum_map (g := fun x => x.lostA k) rfl fun _ _ => rfl]
  simp only [flushTally_lostA, sum_map_oneIf]

theorem flushTally_sum_lostB (s : State) (k : Slot) :
    (Tally.sum (flushTally s) allDescs).lostB k = (descsSuch s (flushLoses s (.slot k) .b)).length := by
  rw [Tally.sum_map (g := fun x => x.lostB k) rfl fun _ _ => rfl]
  simp only [flushTally_lostB, sum_map_oneIf]

theorem flushTally_sum_freed (s : State) (k : Slot) :
    (Tally.sum (flushTally s) allDescs).freed k = (descsSuch s (flushFrees s (.slot k))).length := by
  rw [Tally.sum_map (g := fun x => x.freed k) rfl fun _ _ => rfl]
  simp only [flushTally_freed, sum_map_oneIf]

theorem flushTally_sum_transit (s : State) :
    (Tally.sum (flushTally s) allDescs).transit =
      (descsSuch s (flushDropsReserved s)).length + (descsSuch s (flushLoses s .transit .a)).length +
        (descsSuch s (flushLoses s .transit .b)).length := by
  rw [Tally.sum_map (g := Tally.transit) rfl fun _ _ => rfl]
  simp only [flushTally_transit, List.sum_map_add, sum_map_oneIf]

/-- Where every HELD descriptor has a lane left and the frame's alone is RESERVED, what a FLUSH leaves is being sent. -/
theorem sending_of_flushAfter {s : State} {d : DescNo} {r r' : Descriptor}
    (hreserved : r.condition = .reserved → reservedDesc s = some d) (hused : r.remaining ≠ ⟨false, false⟩)
    (h : flushAfter s d r = some r') : ∃ l snd, (s.lane l).sending = some snd ∧ snd.item = .descriptor d := by
  have hsends : ∃ l, sendingOn s d l = true := by
    by_contra hnone
    have hkept : keptLanes (sendingOn s d) r = ⟨false, false⟩ := by simp_all [keptLanes]
    unfold flushAfter heldAfter at h
    split at h
    · cases h
    · rename_i hr
      rw [if_neg fun hc => hr (hreserved hc), if_pos ⟨hkept, hused⟩] at h
      cases h
  obtain ⟨l, hl⟩ := hsends
  unfold sendingOn at hl
  split at hl
  · rename_i snd hsnd
    exact ⟨l, snd, hsnd, of_decide_eq_true hl⟩
  · cases hl

/-! ### The statement -/

theorem flushDatapath_eq (s : State) : flushDatapath s = clearContinuity (flushEnd s) := rfl

theorem clearContinuity_pool (s : State) : (clearContinuity s).pool = s.pool := rfl

theorem clearContinuity_notices (s : State) : (clearContinuity s).notices = s.notices := rfl

theorem clearContinuity_counters (s : State) : (clearContinuity s).counters = s.counters := rfl

theorem clearContinuity_desc (s : State) (d : DescNo) : (clearContinuity s).desc d = s.desc d := rfl

theorem flushDatapath_desc (s : State) (d : DescNo) :
    (flushDatapath s).desc d = (s.desc d).bind (flushAfter s d) := by
  rw [flushDatapath_eq, clearContinuity_desc, flushEnd_desc]

/-- Settles O23: the tallies of all descriptors added up, then the continuity fields cleared. -/
theorem flushLeavesOnlyWhatIsBeingSent : Obligations.FlushLeavesOnlyWhatIsBeingSent := by
  refine ⟨fun m s ha => ?_, fun s => ?_⟩
  · exact exec_of_answer (i := .flush m) (r := .flush) (a := ⟨.ok, [], flushDatapath (taken m s)⟩) rfl rfl (by simp) ha rfl
  intro t reserved leaves after such lost freed transit
  have htaken := taken_flushEnd s
  have hdesc (d : DescNo) : t.desc d = (s.desc d).bind (after d) := flushDatapath_desc s d
  have hentry (k : Slot) : t.entry k = { (flushEnd s).entry k with expected := none, behindRun := 0 } :=
    clearContinuity_entry ..
  refine ⟨hdesc, fun hreserved hused d r hd => ?_, fun k => ?_, ?_, ?_, ?_⟩
  · rw [hdesc] at hd
    obtain ⟨r₀, hr₀, hafter⟩ := Option.bind_eq_some_iff.1 hd
    exact sending_of_flushAfter (hreserved d r₀ hr₀) (hused d r₀ hr₀) hafter
  · rw [hentry, htaken.entry, flushTally_sum_lostA, flushTally_sum_lostB, flushTally_sum_freed]
    rfl
  · have hpool : t.pool = (flushEnd s).pool := clearContinuity_pool _
    rw [hpool]
    refine htaken.cells.trans ?_
    rw [Tally.sum_cells]
    refine .of_eq (congrArg (s.pool.freeCells ++ ·) (List.flatMap_congr fun d _ => ?_))
    rw [flushTally_cells]
    rfl
  · obtain ⟨retired, hnodup, hmem, hraised⟩ := htaken.retired
    have hnotices : t.notices = (flushEnd s).notices := clearContinuity_notices _
    have hcounters : t.counters = (flushEnd s).counters := clearContinuity_counters _
    have hbut := htaken.counters
    rw [flushTally_sum_transit] at hbut
    have hsame : (raiseRetired retired s).counters =
        { s.counters with noticesLost := (raiseRetired retired s).counters.noticesLost } :=
      GlobalCounters.eq_of_butLost (raiseRetired_butLost ..) rfl
    refine ⟨retired, hnodup, fun k => by rw [hmem, hentry], hnotices.trans hraised.notices, ?_⟩
    rw [hcounters, counters_of_addDropped hbut hraised.lost, hsame]
    rfl
  · obtain ⟨table, descs, cells, notices, counters, h⟩ := exists_of_outerFrame (outerFrame_flushEnd s)
    have ht : t = clearContinuity _ := (flushDatapath_eq s).trans (congrArg clearContinuity h)
    rw [ht]
    rfl

end Sys2Proof.Machine

/-! The statement about the first frame of a stream (R31, R45, R79 to R86). -/

namespace Sys2Proof.Machine

open Sys2Proof

/-- The same work of the header event under another verdict. -/
def HeaderWork.withVerdict (v : Verdict) (w : HeaderWork) : HeaderWork :=
  ⟨w.state, { w.context with verdict := v }⟩

theorem HeaderWork.withVerdict_state (v : Verdict) (w : HeaderWork) : (w.withVerdict v).state = w.state := rfl

/-! ### Admission asks of the verdict only whether it is BEHIND -/

section
variable (cl : Classified) (release : Time) (lanes : LaneSet) (data : List Byte) (v : Verdict) (s : State) (c : Context)

theorem storedLength_withVerdict (config : EntryConfig) :
    storedLength config { c with verdict := v } = storedLength config c := rfl

theorem admitPool_withVerdict :
    admitPool cl release lanes data ⟨s, { c with verdict := v }⟩ =
      (admitPool cl release lanes data ⟨s, c⟩).withVerdict v := by
  simp only [admitPool, storedLength_withVerdict]
  split <;> rfl

theorem admitQuota_withVerdict :
    admitQuota cl release lanes data ⟨s, { c with verdict := v }⟩ =
      (admitQuota cl release lanes data ⟨s, c⟩).withVerdict v := by
  simp only [admitQuota]
  split
  · rfl
  · exact admitPool_withVerdict ..

theorem admitLanes_withVerdict :
    admitLanes cl release data ⟨s, { c with verdict := v }⟩ =
      (admitLanes cl release data ⟨s, c⟩).withVerdict v := by
  simp only [admitLanes]
  split
  · rfl
  · exact admitQuota_withVerdict ..

theorem admitRelease_withVerdict :
    admitRelease cl data ⟨s, { c with verdict := v }⟩ = (admitRelease cl data ⟨s, c⟩).withVerdict v := by
  simp only [admitRelease]
  split
  · rfl
  · rfl
  · next t late unaligned _ =>
    exact admitLanes_withVerdict cl t data v s
      { c with stampFlags := releaseFlags c.stampFlags s.clock.state late unaligned }

variable {v c} in
/-- Of two verdicts that are not BEHIND, Admission only carries along which one the frame has (R79, R80). -/
theorem admitStream_withVerdict (hc : c.verdict ≠ .behind) (hv : v ≠ .behind) :
    admitStream cl data ⟨s, { c with verdict := v }⟩ = (admitStream cl data ⟨s, c⟩).withVerdict v := by
  simp only [admitStream, if_neg hc, if_neg hv]
  split
  · rfl
  · exact admitRelease_withVerdict ..

end

/-- Under CHECK without an expectation the frame is FIRST (R45). -/
theorem judge_first (q : BitVec 16) (run : Fin 4) : judge .check none run q = ⟨.first, some (q + 1), 0⟩ := rfl

/-- Settles O15: FIRST is a verdict without count, notice and flag, and Admission takes it as it takes IN-ORDER. -/
theorem firstFrameSynchronisesTheStream : Obligations.FirstFrameSynchronisesTheStream := by
  intro k data s c hmode hnone
  refine ⟨headerClassified_of_judgement data (by rw [hmode, hnone, judge_first]), fun cl u x => ?_⟩
  have hsame : admitStream cl data ⟨u, { x with verdict := .first }⟩ =
      (admitStream cl data ⟨u, { x with verdict := .inOrder }⟩).withVerdict .first :=
    admitStream_withVerdict cl data u (c := { x with verdict := .inOrder }) nofun nofun
  rw [hsame, HeaderWork.withVerdict_state]

end Sys2Proof.Machine

/-! The statements about candidates, the arbiter and the stall timers (R97, R98, R100, R101, R106, R160, R162). -/

namespace Sys2Proof.Machine

open Sys2Proof

/-! ### The oldest of a list (R101, R160) -/

/-- The age of a time, as a number. -/
theorem age_eq (now t : Time) : age now t = if (now - t).toNat < 2 ^ 47 then (now - t).toNat else 0 := by
  simp only [age, hasCome, decide_eq_true_eq]

/-- An element older than all before it and no younger than any after it. -/
def IsOldest {α : Type} (now : Time) (time : α → Time) (xs : List α) (x : α) : Prop :=
  ∃ before after, xs = before ++ x :: after ∧ (∀ y ∈ before, age now (time y) < age now (time x)) ∧
    ∀ y ∈ after, age now (time y) ≤ age now (time x)

section
variable {α : Type} {now : Time} {time : α → Time}

theorem not_isOldest_nil (x : α) : ¬ IsOldest now time [] x := by
  rintro ⟨before, after, h, -⟩
  simp at h

theorem isOldest_cons {y : α} {ys : List α} {x : α} :
    IsOldest now time (y :: ys) x ↔
      (x = y ∧ ∀ z ∈ ys, age now (time z) ≤ age now (time y)) ∨
        (age now (time y) < age now (time x) ∧ IsOldest now time ys x) := by
  constructor
  · rintro ⟨_ | ⟨b, before⟩, after, h, hbefore, hafter⟩
    · obtain ⟨rfl, rfl⟩ : y = x ∧ ys = after := by simpa using h
      exact .inl ⟨rfl, hafter⟩
    · obtain ⟨rfl, rfl⟩ : y = b ∧ ys = before ++ x :: after := by simpa using h
      obtain ⟨hfirst, hrest⟩ := List.forall_mem_cons.1 hbefore
      exact .inr ⟨hfirst, before, after, rfl, hrest, hafter⟩
  · rintro (⟨rfl, hall⟩ | ⟨hfirst, before, after, rfl, hbefore, hafter⟩)
    · exact ⟨[], ys, rfl, nofun, hall⟩
    · exact ⟨y :: before, after, rfl, List.forall_mem_cons.2 ⟨hfirst, hbefore⟩, hafter⟩

theorem IsOldest.mem {xs : List α} {x : α} (h : IsOldest now time xs x) : x ∈ xs := by
  obtain ⟨before, after, rfl, -⟩ := h
  simp

theorem IsOldest.age_le {xs : List α} {x z : α} (h : IsOldest now time xs x) (hz : z ∈ xs) :
    age now (time z) ≤ age now (time x) := by
  obtain ⟨before, after, rfl, hbefore, hafter⟩ := h
  rw [List.mem_append, List.mem_cons] at hz
  obtain hz | rfl | hz := hz
  · exact (hbefore z hz).le
  · exact le_rfl
  · exact hafter z hz

/-- `oldest` finds just the element that is older than all before it and no younger than any after it. -/
theorem oldest_eq_some_iff {xs : List α} {x : α} : oldest now time xs = some x ↔ IsOldest now time xs x := by
  induction xs generalizing x with
  | nil => exact iff_of_false nofun (not_isOldest_nil x)
  | cons y ys ih =>
    rw [isOldest_cons, oldest]
    cases hz : oldest now time ys with
    | none =>
      have hempty : ys = [] := by simpa [hz] using oldest_isSome now time ys
      subst hempty
      simp [not_isOldest_nil, eq_comm]
    | some z =>
      have hoz : IsOldest now time ys z := ih.1 hz
      have hunique {w : α} (hw : IsOldest now time ys w) : z = w := Option.some.inj (hz.symm.trans (ih.2 hw))
      dsimp only
      split
      · next hlt =>
        constructor
        · rintro ⟨⟩
          exact .inr ⟨hlt, hoz⟩
        · rintro (⟨rfl, hall⟩ | ⟨-, hx⟩)
          · exact absurd (hall z hoz.mem) (by omega)
          · rw [hunique hx]
      · next hge =>
        constructor
        · rintro ⟨⟩
          exact .inl ⟨rfl, fun w hw => (hoz.age_le hw).trans (by omega)⟩
        · rintro (⟨rfl, -⟩ | ⟨hlt, hx⟩)
          · rfl
          · exact absurd (hunique hx ▸ hlt) hge

end

/-! ### The candidates of a lane (R98, R100, R160, R162) -/

theorem blocked_eq_true_iff (s : State) (l : Lane) : s.blocked l = true ↔ (s.lane l).state = .blocked := by
  simp [State.blocked]

/-- The record offered is the oldest of those that are DUE, while the transmissions are not held. -/
theorem dueNotice_eq_some_iff {s : State} {n : Notice} :
    dueNotice s = some n ↔
      (s.lane s.params.noticeLane).state ≠ .blocked ∧
        IsOldest s.clock.time (·.nextTransmission) (s.notices.queue.filter fun x => decide (x.condition = .due)) n := by
  unfold dueNotice noticesHeld
  split
  · next hheld => simp [(blocked_eq_true_iff ..).1 hheld]
  · next hfree => simp [mt (blocked_eq_true_iff ..).2 hfree, oldest_eq_some_iff]

/-- A record is offered exactly where one is DUE and the transmissions are not held. -/
theorem dueNotice_isSome_iff (s : State) :
    (dueNotice s).isSome = true ↔
      (s.lane s.params.noticeLane).state ≠ .blocked ∧ ∃ n ∈ s.notices.queue, n.condition = .due := by
  unfold dueNotice noticesHeld
  split
  · next hheld => simp [(blocked_eq_true_iff ..).1 hheld]
  · next hfree => simp [mt (blocked_eq_true_iff ..).2 hfree, oldest_isSome]

theorem noticeCandidate_isSome_iff (l : Lane) (s : State) :
    (noticeCandidate l s).isSome = true ↔
      s.params.noticeLane = l ∧ (s.lane l).state ≠ .blocked ∧ ∃ n ∈ s.notices.queue, n.condition = .due := by
  unfold noticeCandidate
  split
  · next hlane => rw [Option.isSome_map, dueNotice_isSome_iff, hlane]; simp
  · next hlane => simp [hlane]

theorem gateCandidate_isSome_iff (l : Lane) (s : State) :
    (gateCandidate l s).isSome = true ↔
      (s.params.replyLane = l ∧ s.agent.replies ≠ []) ∨ (noticeCandidate l s).isSome = true := by
  unfold gateCandidate
  cases s.agent.replies <;> split <;> simp [*]

theorem transitCandidate_isSome_iff (l : Lane) (s : State) :
    (transitCandidate l s).isSome = true ↔ l = .a ∧ ∃ d q r, s.transitQueue = d :: q ∧ s.desc d = some r := by
  cases l with
  | a => cases hq : s.transitQueue <;> simp [transitCandidate, hq, Option.isSome_iff_exists]
  | b => simp [transitCandidate]

theorem dataCandidate_isSome_iff (l : Lane) (s : State) :
    (dataCandidate l s).isSome = true ↔
      ∃ d q r, (s.lane l).releaseQueue = d :: q ∧ s.desc d = some r ∧ (s.clock.time - r.release).toNat < 2 ^ 47 := by
  unfold dataCandidate
  cases (s.lane l).releaseQueue with
  | nil => simp
  | cons d q => cases hd : s.desc d <;> simp [hd, hasCome]

/-- A lane has a candidate where one of its three sources offers one. -/
theorem hasCandidate_iff (l : Lane) (s : State) :
    hasCandidate l s = true ↔
      (gateCandidate l s).isSome = true ∨ (transitCandidate l s).isSome = true ∨
        (dataCandidate l s).isSome = true := by
  unfold hasCandidate candidates
  cases gateCandidate l s with
  | some c => simp
  | none =>
    cases transitCandidate l s with
    | some c => simp
    | none => cases dataCandidate l s <;> simp

/-! ### The statements -/

theorem syncStall_lane_state (l j : Lane) (s : State) : ((syncStall l s).lane j).state = (s.lane j).state := by
  cases l <;> cases j <;> rfl

theorem syncStall_lane_releaseQueue (l j : Lane) (s : State) :
    ((syncStall l s).lane j).releaseQueue = (s.lane j).releaseQueue := by
  cases l <;> cases j <;> rfl

theorem syncStall_desc (l : Lane) (s : State) (d : DescNo) : (syncStall l s).desc d = s.desc d :=
  State.desc_setLane ..

/-- The candidates of a lane do not depend on one lane's stall timer. -/
theorem syncStall_hasCandidate (l j : Lane) (s : State) : hasCandidate j (syncStall l s) = hasCandidate j s := by
  rw [Bool.eq_iff_iff]
  simp only [hasCandidate_iff, gateCandidate_isSome_iff, noticeCandidate_isSome_iff, transitCandidate_isSome_iff,
    dataCandidate_isSome_iff, syncStall_params, syncStall_agent, syncStall_notices, syncStall_clock,
    syncStall_transitQueue, syncStall_lane_state, syncStall_lane_releaseQueue, syncStall_desc]

/-- Settles O24: each timer is judged on candidates that the other does not touch. -/
theorem stallTimersFollowCandidates : Obligations.StallTimersFollowCandidates := by
  refine ⟨fun s => ?_, fun l s => ?_⟩
  · have hb := syncStall_hasCandidate .a .b s
    rw [settle, syncStall, hb]
    rfl
  · rw [hasCandidate_iff, gateCandidate_isSome_iff, noticeCandidate_isSome_iff, transitCandidate_isSome_iff,
      dataCandidate_isSome_iff, or_assoc]

theorem noticeCandidate_toList (l : Lane) (s : State) :
    (noticeCandidate l s).toList =
      if s.params.noticeLane = l then (dueNotice s).toList.map fun n => ⟨.notice n, n.nextTransmission⟩ else [] := by
  unfold noticeCandidate
  split
  · cases dueNotice s <;> rfl
  · rfl

/-- Settles O25: the choice by `oldest_eq_some_iff`, the candidates source by source. -/
theorem arbiterTakesTheOldestCandidate : Obligations.ArbiterTakesTheOldestCandidate := by
  intro l s age
  have hage : Machine.age s.clock.time = age := funext (age_eq s.clock.time)
  refine ⟨fun n => ?_, ?_, fun c => ?_⟩
  · rw [dueNotice_eq_some_iff, IsOldest, hage]
  · refine congrArg₂ (· ++ ·) (congrArg₂ (· ++ ·) ?_ ?_) ?_
    · rw [← noticeCandidate_toList, gateCandidate]
      cases s.agent.replies with
      | nil => exact congrArg Option.toList (ite_self _)
      | cons r rs => exact apply_ite Option.toList ..
    · cases l with
      | a =>
        unfold transitCandidate
        cases s.transitQueue with
        | nil => rfl
        | cons d q => dsimp only; cases s.desc d <;> rfl
      | b => rfl
    · rw [dataCandidate]
      cases (s.lane l).releaseQueue with
      | nil => rfl
      | cons d q =>
        dsimp only
        cases s.desc d with
        | none => rfl
        | some r =>
          simp only [Option.bind_some, hasCome, decide_eq_true_eq]
          split <;> rfl
  · rw [arbiterChoice, oldest_eq_some_iff, IsOldest, hage]

end Sys2Proof.Machine

/-! The statements about sends: their start with its frame, and their end (R101 to R104, R113, R137, R144, R145, R160,
R161). -/

namespace Sys2Proof.Machine

open Sys2Proof

/-! ### Frames of the gate's own (sections 11.1, 11.2, 11.4) -/

theorem gateFrame_eq (kind gateNumber : Byte) (sequence : BitVec 16) (origin : Time) (payload : List Byte) :
    gateFrame kind gateNumber sequence origin payload =
      withCheckWord
        ([kind, 0x80] ++ bytes16 (BitVec.ofNat 16 (0xF000 + gateNumber.toNat)) ++ bytes16 sequence ++
          bytes16 (BitVec.ofNat 16 payload.length) ++ bytes48 origin ++ payload) := by
  rw [← sourceTag_eq]
  rfl

theorem replyPayload_eq (r : Reply) :
    replyPayload r =
      [r.manager] ++ bytes16 r.txn ++
        [r.code, resultByte r.result, (if r.duplicate then 1 else 0) + (if r.allGates then 2 else 0)] ++ r.data := by
  rw [← flags_two]
  rfl

/-! ### Send start (R101 to R103) -/

/-- Only an IDLE lane with a candidate starts a send. -/
theorem sendStart_of_none {l : Lane} {s : State} (h : (s.lane l).state ≠ .idle ∨ candidates l s = []) :
    sendStart l s = s := by
  obtain h | h := h
  · rw [sendStart, if_neg h]
  · rw [sendStart, arbiterChoice, h, oldest, ite_self]

theorem sendStart_of_choice {l : Lane} {s : State} {c : Candidate} (hidle : (s.lane l).state = .idle)
    (hc : arbiterChoice l s = some c) : sendStart l s = startSource l c.source s := by
  rw [sendStart, if_pos hidle, hc]

theorem exec_laneSendStart {s : State} (hr : s.pins.resetN = true) (l : Lane) :
    exec (.laneSendStart l) s = .next (settle (agentRun (sendStart l s))) :=
  act_of_running (work := fun s => agentRun (sendStart l s)) hr rfl

/-- Settles O26, by the source of the arbiter's choice. -/
theorem sendsStartWithTheirFrames : Obligations.SendsStartWithTheirFrames := by
  refine ⟨fun l s hr => ?_, gateFrame_eq, replyPayload_eq, fun destination n => ?_, rfl, rfl⟩
  · intro sends numbered
    refine ⟨fun h => by rw [exec_laneSendStart hr, sendStart_of_none h], fun c hidle hc => ?_⟩
    rw [exec_laneSendStart hr, sendStart_of_choice hidle hc]
    cases c.source with
    | reply r => rfl
    | notice n => rfl
    | transit d =>
      dsimp only [startSource, startTransit]
      cases s.desc d <;> rfl
    | data d =>
      dsimp only [startSource, startData]
      cases s.desc d with
      | none => rfl
      | some r =>
        dsimp only
        cases r.stream with
        | transit => rfl
        | slot k => simp only [State.modifyEntry, State.entry_setLane]; rfl
  · rw [← flags_one]
    rfl

/-! ### Send end (R104, R113, R161) -/

theorem exec_laneSendEnd {s : State} (hr : s.pins.resetN = true) (l : Lane) :
    exec (.laneSendEnd l) s = .next (settle (sendRunsOut l s)) := act_of_running hr rfl

/-- A lane that sends nothing has no send end. -/
theorem sendRunsOut_of_none {l : Lane} {s : State} (h : (s.lane l).sending = none) : sendRunsOut l s = s := by
  rw [sendRunsOut, h]

theorem elapse_lane_sending (n : Nat) (l : Lane) (s : State) :
    ((elapse n s).lane l).sending = (s.lane l).sending.map fun x => { x with elapsed := x.elapsed + n } := by
  cases l <;> rfl

/-- The last periods of the send pass, the item is finished, and the lane takes its next state. -/
theorem sendRunsOut_of_sending {l : Lane} {s : State} {snd : Send} (h : (s.lane l).sending = some snd) :
    let t := elapse (1 - snd.elapsed) s
    sendRunsOut l s =
      agentRun (restartCheck
        (afterSend l (s.lane l).state (finishItem l snd.item (t.setLane l { t.lane l with sending := none })))) := by
  simp only [sendRunsOut, lastPeriods, sendEnd, h, elapse_lane_sending, Option.map_some, elapse_lane_state]

/-- What finishing a descriptor comes to: a transit frame is counted as forwarded, and the descriptor leaves the lane. -/
theorem finishItem_descriptor (l : Lane) (d : DescNo) (u : State) :
    finishItem l (.descriptor d) u =
      (u.desc d).elim u fun r =>
        leaveLane l d
          (if r.stream = .transit then u.count fun c => { c with transitForwarded := c.transitForwarded + 1 } else u) := by
  rw [finishItem]
  cases u.desc d with
  | none => rfl
  | some r =>
    dsimp only [Option.elim_some]
    cases r.stream <;> rfl

/-- Finishing an item leaves the pins. -/
theorem finishItem_pins (l : Lane) (item : SendItem) (u : State) : (finishItem l item u).pins = u.pins := by
  cases item with
  | reply r => rfl
  | notice n => exact noticeSendEnd_pins n u
  | descriptor d =>
    rw [finishItem_descriptor]
    cases u.desc d with
    | none => rfl
    | some r =>
      rw [Option.elim_some, leaveLane_pins]
      split <;> rfl

theorem waitHigh_of_pins {s t : State} (h : t.pins = s.pins) (l : Lane) : t.waitHigh l = s.waitHigh l := by
  cases l <;> simp only [State.waitHigh, h]

/-- The next state of a lane after a send (R104). -/
theorem afterSend_eq (l : Lane) (before : LaneState) (v : State) :
    afterSend l before v =
      if before = .blockPending then enterBlocked l .request v
      else v.setLane l { v.lane l with state := if v.waitHigh l then .paused else .idle } := by
  cases before <;> rfl

/-- Settles O27, by the kind of item. -/
theorem sendEndFinishesTheItemAndTheLane : Obligations.SendEndFinishesTheItemAndTheLane := by
  refine fun l s hr => ⟨fun h => by rw [exec_laneSendEnd hr, sendRunsOut_of_none h], fun snd h => ?_⟩
  intro t u v
  have hv : finishItem l snd.item u = v := by
    dsimp only [v]
    cases snd.item with
    | reply r => rfl
    | notice n => rfl
    | descriptor d =>
      have hdesc : u.desc d = s.desc d := State.desc_setLane ..
      rw [finishItem_descriptor, hdesc]
      dsimp only
      cases s.desc d with
      | none => rfl
      | some r => exact apply_ite (leaveLane l d) ..
  have hwait : v.waitHigh l = s.waitHigh l := waitHigh_of_pins (by rw [← hv, finishItem_pins]; simp [u, t]) l
  rw [exec_laneSendEnd hr, sendRunsOut_of_sending h, afterSend_eq, hv, hwait]

end Sys2Proof.Machine

/-! The statements about WAIT, the stall timer, and lanes blocked and reopened by request (R105, R106, R108, R111, R152,
R162, R164). -/

namespace Sys2Proof.Machine

open Sys2Proof

/-! ### WAIT (R105) -/

theorem exec_waitAsserted {s : State} (hr : s.pins.resetN = true) (l : Lane) :
    exec (.waitAsserted l) s = .next (settle (waitAsserted l (setWait l true s))) :=
  act_of_running (work := waitAsserted l) (s := setWait l true s) (by cases l <;> exact hr) rfl

theorem exec_waitReleased {s : State} (hr : s.pins.resetN = true) (l : Lane) :
    exec (.waitReleased l) s = .next (settle (waitReleased l (setWait l false s))) :=
  act_of_running (work := waitReleased l) (s := setWait l false s) (by cases l <;> exact hr) rfl

theorem setWait_lane (l : Lane) (level : Bool) (s : State) (j : Lane) : (setWait l level s).lane j = s.lane j := by
  cases l <;> cases j <;> rfl

/-! ### A stall (R106) -/

theorem exec_stallTimerExpiry {s : State} {l : Lane} {e : Nat} (hr : s.pins.resetN = true)
    (hpaused : (s.lane l).state = .paused) (hstall : (s.lane l).stall = some e) :
    exec (.stallTimerExpiry l) s =
      .next (settle (agentRun (restartCheck
        (enterBlocked l .stall (elapse (s.params.stallLimit * 125 - e) s))))) := by
  refine act_of_running (work := stallTimerRunsOut l) hr ?_
  rw [stallTimerRunsOut, hpaused, hstall]
  rfl

/-! ### The end of a RESTART's reply (R152) -/

/-- An Agent that is RESTARTING, with its reply neither waiting nor being sent, takes the hard reset. -/
theorem restartCheck_of_ended {s : State} (hstate : s.agent.state = .restarting)
    (hreplies : ∀ r ∈ s.agent.replies, r.restart = false) (ha : sendingRestart s.laneA = false)
    (hb : sendingRestart s.laneB = false) : restartCheck s = hardReset s := by
  have hany : s.agent.replies.any (·.restart) = false := by simpa using hreplies
  rw [restartCheck, if_pos]
  simp [restartEnded, hstate, hany, ha, hb]

/-- A hard reset looks at the pins, the commands that wait and the count of used free values alone. -/
theorem hardReset_congr {s t : State} (hpins : t.pins = s.pins) (hfree : t.freeCount = s.freeCount)
    (hpending : t.pending = s.pending) : hardReset t = hardReset s := by
  simp only [hardReset, hpins, hfree, hpending]

theorem sendingRestart_congr {u v : LaneUnit} (h : u.sending = v.sending) : sendingRestart u = sendingRestart v := by
  simp only [sendingRestart, h]

theorem sendingRestart_laneAfter (u : LaneUnit) (n : Nat) : sendingRestart (laneAfter u n) = sendingRestart u := by
  simp only [sendingRestart, laneAfter]
  obtain _ | ⟨item, frame, elapsed⟩ := u.sending
  · rfl
  · cases item <;> rfl

theorem closeLane_lane_sending (l : Lane) (s : State) (j : Lane) :
    ((closeLane l s).lane j).sending = (s.lane j).sending := by
  cases l <;> cases j <;> rfl

/-- Entry into BLOCKED and the time before it leave what the lanes are sending. -/
theorem sendingRestart_enterBlocked_elapse (l : Lane) (cause : BlockCause) (n : Nat) (s : State) (j : Lane) :
    sendingRestart ((enterBlocked l cause (elapse n s)).lane j) = sendingRestart (s.lane j) := by
  calc sendingRestart ((enterBlocked l cause (elapse n s)).lane j)
      = sendingRestart ((elapse n s).lane j) :=
        sendingRestart_congr (by rw [enterBlocked_lane, closeLane_lane_sending])
    _ = sendingRestart (laneAfter (s.lane j) n) := by cases j <;> rfl
    _ = sendingRestart (s.lane j) := sendingRestart_laneAfter ..

theorem enterBlocked_agent_of_replyLane {l : Lane} {s : State} (h : s.params.replyLane = l) (cause : BlockCause) :
    (enterBlocked l cause s).agent = { s.agent with replies := [] } := by
  rw [enterBlocked_eq]
  exact if_pos h

/-- Settles O29: a stall of the reply lane discards the RESTART's reply, and the hard reset leaves nothing to run. -/
theorem waitPausesAndStallBlocks : Obligations.WaitPausesAndStallBlocks := by
  refine ⟨fun l s hr => ?_, fun l s e hr hpaused hstall => ?_⟩
  · intro line
    have hline (level : Bool) : setWait l level s = line level := by cases l <;> rfl
    rw [exec_waitAsserted hr, exec_waitReleased hr, waitAsserted, waitReleased, setWait_lane, setWait_lane, hline, hline]
    exact ⟨rfl, rfl⟩
  · intro t
    refine ⟨exec_stallTimerExpiry hr hpaused hstall, fun hstate hlane ha hb => ?_⟩
    have hagent : t.agent = { (elapse (s.params.stallLimit * 125 - e) s).agent with replies := [] } :=
      enterBlocked_agent_of_replyLane (s := elapse _ s) hlane .stall
    have hreset : restartCheck t = hardReset s := by
      refine (restartCheck_of_ended ?_ ?_ ?_ ?_).trans (hardReset_congr ?_ ?_ ?_)
      · rw [hagent]; exact hstate
      · rw [hagent]; exact nofun
      · exact (sendingRestart_enterBlocked_elapse l .stall _ s .a).trans ha
      · exact (sendingRestart_enterBlocked_elapse l .stall _ s .b).trans hb
      · simp [t]
      · simp [t]
      · simp [t]
    rw [exec_stallTimerExpiry hr hpaused hstall, hreset, agentRun_of_empty (hardReset_requests s)]

/-! ### LANE-BLOCK and LANE-RESUME (R108, R111, R162, R164) -/

theorem laneOf_of_ge {v : Nat} (h : 2 ≤ v) : laneOf v = none := by
  obtain ⟨n, rfl⟩ := Nat.exists_eq_add_of_le' h
  rfl

theorem laneOf_laneByte (l : Lane) : laneOf (laneByte l).toNat = some l := by cases l <;> rfl

theorem taken_lane (m : Sender) (s : State) (l : Lane) : (taken m s).lane l = s.lane l := by
  cases l
  · exact restartStaging_laneA ..
  · exact restartStaging_laneB ..

theorem taken_params (m : Sender) (s : State) : (taken m s).params = s.params := restartStaging_params ..

theorem taken_clock (m : Sender) (s : State) : (taken m s).clock = s.clock := restartStaging_clock ..

theorem taken_waitHigh (m : Sender) (s : State) (l : Lane) : (taken m s).waitHigh l = s.waitHigh l :=
  waitHigh_of_pins (restartStaging_pins ..) l

theorem doLaneBlock_laneByte (l : Lane) (s : State) : doLaneBlock (laneByte l) s = ⟨.ok, [], blockLane l s⟩ := by
  rw [doLaneBlock, laneOf_laneByte]

theorem doLaneResume_laneByte (l : Lane) (s : State) :
    doLaneResume (laneByte l) s =
      if (s.lane l).state ≠ .blocked then refusal .state s
      else if s.waitHigh l = true then refusal .paused s
      else ⟨.ok, [], reopenLane l s⟩ := by
  rw [doLaneResume, laneOf_laneByte]
  simp only [blocked_eq_true_iff, ite_not]

/-- A lane that leaves BLOCKED ends a hold of the notices exactly where it is the notice lane. -/
theorem endHold_of_reopened {l : Lane} {s t : State} (hblocked : (s.lane l).state = .blocked)
    (hopen : (t.lane l).state ≠ .blocked) (hother : ∀ j, j ≠ l → t.lane j = s.lane j) (hparams : t.params = s.params) :
    endHold s t = if s.params.noticeLane = l then compareRetries t else t := by
  unfold endHold noticesHeld
  rw [hparams]
  split
  · next hends =>
    rw [if_pos]
    by_contra hne
    simp [State.blocked, hother _ hne] at hends
  · next hstays =>
    rw [if_neg]
    rintro rfl
    simp [State.blocked, hblocked, hopen] at hstays

/-- A BLOCKED lane reopened: LANE-OPEN raised on it IDLE, and the held timers compared where it is the notice lane. -/
theorem reopenLane_of_blocked {l : Lane} {s : State} (h : (s.lane l).state = .blocked) :
    let opened := raise .laneOpen none noTag (detail8 (laneByte l) 0 0 0)
      (s.setLane l { s.lane l with state := .idle })
    reopenLane l s = if s.params.noticeLane = l then compareRetries opened else opened := by
  intro opened
  refine endHold_of_reopened h ?_ (fun j hj => ?_) (by simp)
  · simp
  · rw [raise_lane, State.lane_setLane_ne _ _ hj]

/-- Settles O31, by the state of the lane. -/
theorem lanesAreBlockedAndReopened : Obligations.LanesAreBlockedAndReopened := by
  intro m s ha t
  refine ⟨fun lane hlane => ⟨?_, ?_⟩, fun l => ?_⟩
  · refine exec_of_answer (i := .laneBlock m lane) (r := .laneBlock lane) (a := refusal .badValue t) rfl rfl (by simp) ha
      ?_
    rw [perform, doLaneBlock, laneOf_of_ge hlane]
  · refine exec_of_answer (i := .laneResume m lane) (r := .laneResume lane) (a := refusal .badValue t) rfl rfl (by simp) ha
      ?_
    rw [perform, doLaneResume, laneOf_of_ge hlane]
  intro lane opened compared
  have hlane : lane = laneByte l := by cases l <;> rfl
  have hstate : (t.lane l).state = (s.lane l).state := congrArg LaneUnit.state (taken_lane m s l)
  refine ⟨?_, ?_⟩
  · have hexec := exec_of_answer (i := .laneBlock m lane) (r := .laneBlock lane) rfl rfl (by simp) ha rfl
    rw [perform, hlane, doLaneBlock_laneByte, blockLane, hstate] at hexec
    rw [hlane]
    refine hexec.trans ?_
    cases (s.lane l).state <;> rfl
  · have hexec := exec_of_answer (i := .laneResume m lane) (r := .laneResume lane) rfl rfl (by simp) ha rfl
    rw [perform, hlane, doLaneResume_laneByte, hstate, taken_waitHigh] at hexec
    rw [hlane, hexec]
    by_cases hblocked : (s.lane l).state ≠ .blocked
    · simp only [if_pos hblocked]
      rfl
    · by_cases hwait : s.waitHigh l = true
      · simp only [if_neg hblocked, if_pos hwait]
        rfl
      · simp only [if_neg hblocked, if_neg hwait]
        have hopened : raise .laneOpen none noTag (detail8 (laneByte l) 0 0 0)
            (t.setLane l { t.lane l with state := .idle }) = opened := by rw [← hlane]; rfl
        have hparams : opened.params = s.params :=
          (raise_params ..).trans ((State.setLane_params ..).trans (taken_params m s))
        have hclock : opened.clock = s.clock :=
          (raise_clock ..).trans ((State.setLane_clock ..).trans (taken_clock m s))
        have hcompared : compareRetries opened = compared := by
          refine congrArg (fun f => { opened with notices := { opened.notices with queue := opened.notices.queue.map f } })
            (funext fun n => ?_)
          rw [hparams, hclock]
          cases n.condition <;> rfl
        have hreopened : reopenLane l t = if s.params.noticeLane = l then compared else opened := by
          rw [reopenLane_of_blocked (hstate.trans (not_not.1 hblocked)), hopened, hcompared, taken_params]
        exact congrArg (fun u => Host.Outcome.next (settle (answered m 0x23 .ok [] true u))) hreopened

end Sys2Proof.Machine

/-! The statement about intake and the running of requests (R106, R110, R135, R137). -/

namespace Sys2Proof.Machine

open Sys2Proof

/-- A reply enters at its creation, or is lost where the reply lane is BLOCKED (R110, R143). -/
theorem createReply_eq (r : Reply) (s : State) :
    createReply r s =
      if (s.lane s.params.replyLane).state = .blocked then
        { settle s with counters := { s.counters with repliesLost := s.counters.repliesLost + 1 } }
      else { settle s with agent := { s.agent with replies := s.agent.replies ++ [r] } } := by
  have hblocked : (settle s).blocked (settle s).params.replyLane = true ↔
      (s.lane s.params.replyLane).state = .blocked := by
    rw [settle_blocked, settle_params, blocked_eq_true_iff]
  exact ite_congr (propext hblocked) (fun _ => rfl) fun _ => rfl

theorem createReply_agent_state (r : Reply) (s : State) : (createReply r s).agent.state = s.agent.state := by
  rw [createReply_eq]
  split
  · rw [settle_agent]
  · rfl

theorem intake_agent_state (q : RequestRecord) (s : State) : (intake q s).agent.state = s.agent.state := by
  unfold intake
  split
  · rfl
  · split
    · exact createReply_agent_state ..
    · rfl

/-- With a full reply queue intake makes no reply. -/
theorem intake_replies_of_full {s : State} (h : 8 ≤ s.agent.replies.length) (q : RequestRecord) :
    (intake q s).agent.replies = s.agent.replies := by
  unfold intake
  split
  · rfl
  · rw [if_neg (by simpa [replyCapacity] using h)]
    rfl

/-- An Agent without room for a reply runs nothing (R137). -/
theorem agentRun_of_full {s : State} (h : 8 ≤ s.agent.replies.length) : agentRun s = s := by
  unfold agentRun
  split
  · rfl
  · rw [if_neg fun hrun => absurd hrun.2 (by simpa [replyCapacity] using h)]

theorem agentRun_of_waiting {s : State} {q : RequestRecord} {rest : List RequestRecord} (hready : s.agent.state = .ready)
    (hq : s.agent.requests = q :: rest) (hroom : s.agent.replies.length < 8) :
    agentRun s = restartCheck (execute q { s with agent := { s.agent with requests := rest } }) := by
  rw [agentRun, hq]
  exact if_pos ⟨hready, hroom⟩

theorem exec_workIntervalEnd {s : State} (hr : s.pins.resetN = true) :
    exec .workIntervalEnd s = .next (settle (workEnds s)) := act_of_running hr rfl

/-- Settles O50: what does not run goes through intake and no further. -/
theorem requestsAreTakenInAndRunInTurn : Obligations.RequestsAreTakenInAndRunInTurn := by
  refine ⟨fun q s => ?_, fun u => ?_, fun s hr => ?_⟩
  · simp only [intake, createReply_eq]
    rfl
  · unfold agentRun
    cases u.agent.requests <;> rfl
  · intro ready
    have hends (hw : s.agent.state = .working) : exec .workIntervalEnd s = .next (settle (agentRun ready)) := by
      rw [exec_workIntervalEnd hr, workEnds, if_pos hw]
    refine ⟨fun m code operands h => ?_, fun h => ?_, fun hw h => ?_, fun q rest hw hq hroom => ?_⟩
    · refine act_of_running (work := takeRequest m code operands) hr ?_
      obtain h | h := h
      · exact agentRun_of_not_ready (by rw [intake_agent_state]; exact h)
      · exact agentRun_of_full (by rw [intake_replies_of_full h]; exact h)
    · rw [exec_workIntervalEnd hr, workEnds, if_neg h]
    · rw [hends hw]
      obtain h | h := h
      · rw [agentRun_of_empty (s := ready) h]
      · rw [agentRun_of_full (s := ready) h]
    · rw [hends hw, agentRun_of_waiting (s := ready) rfl hq hroom]

end Sys2Proof.Machine

/-! SUPPORT. The control side of the gate, that is the Change Stage, the Gate Clock and the parameters: the lanes, the
datapath, the trap and the replies leave it alone. -/

namespace Sys2Proof.Machine

open Sys2Proof

/-- The control side of the gate: Change Stage, Gate Clock and parameters. -/
def control (s : State) : Stage × Clock × Params := (s.stage, s.clock, s.params)

/-! ### Updates of one block, notices and storage given back -/

@[simp] theorem control_setLane (s : State) (l : Lane) (u : LaneUnit) : control (s.setLane l u) = control s := by
  simp [control]
@[simp] theorem control_modifyEntry (s : State) (k : Slot) (f : Entry → Entry) :
    control (s.modifyEntry k f) = control s := rfl
@[simp] theorem control_setDesc (s : State) (d : DescNo) (r : Option Descriptor) :
    control (s.setDesc d r) = control s := rfl
@[simp] theorem control_count (s : State) (f : GlobalCounters → GlobalCounters) : control (s.count f) = control s := rfl
@[simp] theorem control_modifyContext (s : State) (f : Context → Context) :
    control (s.modifyContext f) = control s := rfl
@[simp] theorem control_raise (cls : NoticeClass) (slot : Option Slot) (tag : Tag) (detail : BitVec 32) (s : State) :
    control (raise cls slot tag detail s) = control s := by simp [control]
@[simp] theorem control_settle (s : State) : control (settle s) = control s := by simp [control]
@[simp] theorem control_retireCheck (k : Slot) (s : State) : control (retireCheck k s) = control s := by
  simp [control]
@[simp] theorem control_freeDesc (d : DescNo) (s : State) : control (freeDesc d s) = control s := by simp [control]
@[simp] theorem control_leaveLane (l : Lane) (d : DescNo) (s : State) : control (leaveLane l d s) = control s := by
  simp [control]
@[simp] theorem control_dropLane (l : Lane) (d : DescNo) (s : State) : control (dropLane l d s) = control s := by
  simp [control]

/-! ### Lanes -/

@[simp] theorem control_enterBlocked (l : Lane) (cause : BlockCause) (s : State) :
    control (enterBlocked l cause s) = control s := by simp [control]
@[simp] theorem control_noticeSendEnd (sequence : BitVec 16) (s : State) :
    control (noticeSendEnd sequence s) = control s := by simp [control]
@[simp] theorem control_beginSend (l : Lane) (item : SendItem) (frame : List Byte) (s : State) :
    control (beginSend l item frame s) = control s := control_setLane ..

@[simp] theorem control_endHold (s t : State) : control (endHold s t) = control t := by
  unfold endHold
  split <;> rfl

@[simp] theorem control_sendStart (l : Lane) (s : State) : control (sendStart l s) = control s := by
  have hsource (x : Source) : control (startSource l x s) = control s := by
    cases x with
    | reply r => exact control_beginSend ..
    | notice n => exact control_beginSend ..
    | transit d =>
      simp only [startSource, startTransit]
      split
      · rfl
      · exact control_beginSend ..
    | data d =>
      simp only [startSource, startData]
      split
      · rfl
      · split <;> simp
  unfold sendStart
  split
  · split
    · rfl
    · exact hsource _
  · rfl

@[simp] theorem control_sendEnd (l : Lane) (s : State) : control (sendEnd l s) = control s := by
  have hitem (item : SendItem) (t : State) : control (finishItem l item t) = control t := by
    cases item with
    | reply r => rfl
    | notice sequence => exact control_noticeSendEnd ..
    | descriptor d =>
      simp only [finishItem]
      split
      · rfl
      · split <;> simp
  unfold sendEnd afterSend
  split
  · rfl
  · split <;> simp [hitem]

@[simp] theorem control_waitAsserted (l : Lane) (s : State) : control (waitAsserted l s) = control s := by
  unfold waitAsserted
  split <;> simp

@[simp] theorem control_waitReleased (l : Lane) (s : State) : control (waitReleased l s) = control s := by
  unfold waitReleased
  split <;> simp

@[simp] theorem control_compareStall (l : Lane) (s : State) : control (compareStall l s) = control s := by
  unfold compareStall
  split
  · split <;> simp
  · rfl

@[simp] theorem control_blockLane (l : Lane) (s : State) : control (blockLane l s) = control s := by
  unfold blockLane
  split <;> simp

@[simp] theorem control_reopenLane (l : Lane) (s : State) : control (reopenLane l s) = control s := by
  simp [reopenLane]

/-! ### Admission -/

@[simp] theorem control_skipBlocked (k : Slot) (lanes : LaneSet) (l : Lane) (s : State) :
    control (skipBlocked k lanes l s) = control s := by
  unfold skipBlocked
  split <;> rfl

section
variable (cl : Classified) (release : Time) (lanes : LaneSet) (data : List Byte) (w : HeaderWork)

theorem control_admitPool : control (admitPool cl release lanes data w).state = control w.state := by
  simp only [admitPool]
  split
  · split <;> rfl
  · simp

theorem control_admitQuota : control (admitQuota cl release lanes data w).state = control w.state := by
  simp only [admitQuota]
  split
  · simp
  · exact control_admitPool ..

theorem control_admitLanes : control (admitLanes cl release data w).state = control w.state := by
  simp only [admitLanes]
  split
  · simp
  · simp [control_admitQuota]

theorem control_admitStream : control (admitStream cl data w).state = control w.state := by
  unfold admitStream
  split_ifs
  · rfl
  · rfl
  · simp only [admitRelease]
    split
    · rfl
    · rfl
    · exact control_admitLanes ..

theorem control_admitTransit : control (admitTransit data w).state = control w.state := by
  simp only [admitTransit]
  split <;> rfl

end

/-! ### Receptions -/

@[simp] theorem control_noticeVerdict (k : Slot) (tag : Tag) (n : BitVec 16) (before : Option (BitVec 16))
    (v : Verdict) (s : State) : control (noticeVerdict k tag n before v s) = control s := by
  cases v with
  | gap d => exact control_raise ..
  | restart => exact control_raise ..
  | _ => rfl

theorem control_headerDispatch (data : List Byte) (w : HeaderWork) :
    control (headerDispatch data w).state = control w.state := by
  unfold headerDispatch
  split
  case h_2 =>
    unfold headerStream
    split
    · simp [headerClassified, control_admitStream]
    · simp only [headerUnknown]
      split <;> simp [control_admitTransit]
  all_goals simp [control_admitTransit]

@[simp] theorem control_receiveByte (b : Byte) (r : Reception) (s : State) :
    control (receiveByte b r s) = control s := by
  have hoffer (c : Context) (bytes : List Byte) (t : State) : control (offerTrap c bytes t) = control t := by
    unfold offerTrap
    split <;> rfl
  have hcopy (t : State) : control (copyByte b t) = control t := by
    unfold copyByte
    split <;> rfl
  have hstore (c : Context) (n : Nat) (t : State) : control (storeByte c n b t) = control t := by
    unfold storeByte
    split
    · rfl
    · split
      · rfl
      · split <;> simp
  simp only [receiveByte]
  split
  · rw [hcopy, hstore]
    rfl
  · split
    · unfold headerEvent
      split
      · rfl
      · rw [hoffer]
        exact control_headerDispatch ..
    · rfl

@[simp] theorem control_countEnd (c : Context) (outcome : EndOutcome) (s : State) :
    control (countEnd c outcome s) = control s := by
  unfold countEnd
  split
  · rfl
  · split <;> rfl

@[simp] theorem control_completeStream (cl : Classified) (flags : Byte) (errored : Bool) (d : DescNo) (s : State) :
    control (completeStream cl flags errored d s) = control s := by
  have hlane (lanes : LaneSet) (t : State) (l : Lane) : control (completeOnLane lanes d t l) = control t := by
    unfold completeOnLane enqueueRelease
    split_ifs <;> simp
  unfold completeStream
  split
  · rfl
  · simp only [List.foldl_cons, List.foldl_nil, hlane, control_setDesc]

@[simp] theorem control_completeTransit (d : DescNo) (s : State) : control (completeTransit d s) = control s := by
  unfold completeTransit
  split
  · rfl
  · simp only
    split
    · simp
    · rfl

@[simp] theorem control_settleReservation (c : Context) (outcome : EndOutcome) (s : State) :
    control (settleReservation c outcome s) = control s := by
  unfold settleReservation
  split
  · unfold endReservation
    split
    case h_2 => split <;> simp
    all_goals simp
  · rfl

@[simp] theorem control_endCapture (c : Context) (outcome : EndOutcome) (received : Nat) (s : State) :
    control (endCapture c outcome received s) = control s := by
  unfold endCapture
  split
  · split
    · rfl
    · simp only
      split
      · exact control_raise ..
      · rfl
  · rfl

@[simp] theorem control_closeReception (c : Context) (s : State) : control (closeReception c s) = control s := by
  simp only [closeReception]
  split
  · exact control_retireCheck ..
  · rfl

/-! ### FLUSH -/

@[simp] theorem control_flushDatapath (s : State) : control (flushDatapath s) = control s := by
  have hreservation : control (flushReservation s) = control s := by
    unfold flushReservation
    split
    · simp
    · simp only
      split <;> simp
  have hlane (p : Bool) (l : Lane) (d : DescNo) (t : State) :
      control (if p then dropLane l d t else t) = control t := by
    split <;> simp
  have hdescriptor (t : State) (d : DescNo) : control (flushDescriptor t d) = control t := by
    unfold flushDescriptor
    split
    · rfl
    · split
      · simp only [List.foldl_cons, List.foldl_nil, hlane]
      · rfl
  have hall (ds : List DescNo) (t : State) : control (ds.foldl flushDescriptor t) = control t := by
    induction ds generalizing t with
    | nil => rfl
    | cons d ds ih => rw [List.foldl_cons, ih, hdescriptor]
  have hends (t : State) : control (clearContinuity t) = control t ∧ control (emptyQueues t) = control t := ⟨rfl, rfl⟩
  rw [flushDatapath, (hends _).1, hall, (hends _).2, hreservation]

/-! ### Replies -/

@[simp] theorem control_createReply (r : Reply) (s : State) : control (createReply r s) = control s := by
  rw [createReply_eq]
  split <;> exact control_settle s

@[simp] theorem control_intake (q : RequestRecord) (s : State) : control (intake q s) = control s := by
  unfold intake
  split_ifs
  · rfl
  · exact control_createReply ..
  · rfl

end Sys2Proof.Machine

/-! The statement about the law of the commit state and the staging timer (R118, R124), kept by every step. -/

namespace Sys2Proof.Machine

open Sys2Proof

/-! ### What the law reads -/

/-- The law reads the Change Stage and whether the clock is FREE. -/
theorem CommitLaw.of_stage {s t : State} (hs : CommitLaw s) (hstage : t.stage = s.stage)
    (hclock : t.clock.state = .free → s.clock.state = .free) : CommitLaw t := by
  obtain ⟨hscheduled, htimer⟩ := hs
  refine ⟨fun time h => ?_, by rwa [hstage]⟩
  rw [hstage] at h ⊢
  obtain ⟨hchanges, hrunning⟩ := hscheduled time h
  exact ⟨hchanges, fun hfree => hrunning (hclock hfree)⟩

theorem CommitLaw.of_control {s t : State} (hs : CommitLaw s) (h : control t = control s) : CommitLaw t := by
  simp only [control, Prod.mk.injEq] at h
  obtain ⟨hstage, hclock, -⟩ := h
  exact hs.of_stage hstage fun hfree => hclock ▸ hfree

/-- The staging timer matters only by whether it runs. -/
theorem CommitLaw.of_timer {s t : State} (hs : CommitLaw s) (hchanges : t.stage.changes = s.stage.changes)
    (hcommit : t.stage.commit = s.stage.commit) (htimer : t.stage.timer.isSome = s.stage.timer.isSome)
    (hclock : t.clock.state = s.clock.state) : CommitLaw t := by
  rwa [CommitLaw, hchanges, hcommit, htimer, hclock]

/-- The list in IDLE, its timer running exactly where it holds a change. -/
theorem CommitLaw.of_idle {s : State} (hcommit : s.stage.commit = .idle)
    (htimer : s.stage.timer.isSome = true ↔ s.stage.changes ≠ []) : CommitLaw s := by
  simpa [CommitLaw, hcommit] using htimer

theorem CommitLaw.of_emptyStage {s : State} (h : s.stage = emptyStage) : CommitLaw s :=
  .of_idle (by rw [h]; rfl) (by simp [h, emptyStage, Stage.reset])

/-- In IDLE the staging timer runs exactly where the list holds a change. -/
theorem CommitLaw.timer_of_idle {s : State} (hs : CommitLaw s) (hidle : s.stage.commit = .idle) :
    s.stage.timer.isSome = true ↔ s.stage.changes ≠ [] := by
  obtain ⟨-, htimer⟩ := hs
  simpa [hidle] using htimer

/-- A list that is not frozen is IDLE (R124). -/
theorem stageFrozen_iff {st : Stage} : stageFrozen st = true ↔ st.commit ≠ .idle := by
  unfold stageFrozen
  cases st.commit <;> simp

theorem idle_of_not_frozen {st : Stage} (h : ¬ stageFrozen st = true) : st.commit = .idle :=
  not_not.1 fun hc => h (stageFrozen_iff.2 hc)

theorem CommitLaw.changes_of_frozen {s : State} (hs : CommitLaw s) (h : stageFrozen s.stage = true) :
    s.stage.changes ≠ [] := by
  obtain ⟨hscheduled, -⟩ := hs
  cases hc : s.stage.commit with
  | idle => exact absurd hc (stageFrozen_iff.1 h)
  | scheduled time => exact (hscheduled time hc).1

/-! ### The Change Stage and the Gate Clock -/

theorem commitLaw_elapse (n : Nat) {s : State} (hs : CommitLaw s) : CommitLaw (elapse n s) :=
  hs.of_timer rfl rfl (by simp [elapse]) rfl

theorem commitLaw_restartStaging (m : Byte) {s : State} (hs : CommitLaw s) : CommitLaw (restartStaging m s) :=
  hs.of_timer (restartStaging_changes m s) (restartStaging_commit m s)
    (by unfold restartStaging; split <;> simp) (by rw [restartStaging_clock])

theorem commitLaw_stagingExpired (s : State) : CommitLaw (stagingExpired s) :=
  .of_emptyStage (by simp [stagingExpired])

/-- A list that fails holds the change it fails for. -/
theorem changes_of_validate {s : State} {f : Failure} (h : validate s = some f) : s.stage.changes ≠ [] := by
  intro hc
  simp [validate, hc, firstFailure] at h

/-- The signal leaves the list empty, or kept in IDLE with its timer running (R131). -/
theorem commitLaw_commitSignal (s : State) : CommitLaw (commitSignal s) := by
  unfold commitSignal
  split
  · exact .of_emptyStage (by simp)
  · rename_i hfails
    exact .of_idle (by simp) (by simpa using changes_of_validate hfails)

theorem commitLaw_watchCommit {s : State} (hs : CommitLaw s) : CommitLaw (watchCommit s) := by
  unfold watchCommit
  split
  · exact hs
  · split
    · exact commitLaw_commitSignal s
    · exact hs

/-- A clock that has used a TIME frame is LOCKED (R62). -/
theorem commitLaw_useTimeFrame (master : Time) (tag : Tag) (arrival : Time) {s : State} (hs : CommitLaw s) :
    CommitLaw (useTimeFrame master tag arrival s) := by
  unfold useTimeFrame
  refine commitLaw_watchCommit (hs.of_stage ?_ ?_)
  · split_ifs <;> simp
  · split_ifs <;> simp [clockUsing]

/-- No clock that TIME-SET has set is FREE (R70). -/
theorem commitLaw_setTime (value : Time) {s : State} (hs : CommitLaw s) : CommitLaw (setTime value s) := by
  have hset : (clockSet value s.clock).state = .free → s.clock.state = .free := by
    unfold clockSet
    split <;> simp_all
  unfold setTime
  refine commitLaw_watchCommit (hs.of_stage ?_ ?_)
  · split_ifs <;> simp
  · split_ifs <;> simpa using hset

/-- Only a LOCKED clock leaves its state when the holdover timer runs out, and not for FREE (R67). -/
theorem commitLaw_holdoverExpired {s : State} (hs : CommitLaw s) : CommitLaw (holdoverExpired s) := by
  refine hs.of_stage (holdoverExpired_stage s) ?_
  unfold holdoverExpired
  split <;> simp

theorem commitLaw_hardReset (s : State) : CommitLaw (hardReset s) := .of_emptyStage (hardReset_stage s)

/-! ### Requests of the Change Stage -/

theorem stageInto_ne_nil (cs : List Change) (c : Change) : stageInto cs c ≠ [] := by
  intro h
  have hslots := slot_stageInto cs c
  rw [h] at hslots
  split at hslots
  · rename_i hfound
    have hcs : cs = [] := by simpa using hslots.symm
    simp [hcs, changeFor] at hfound
  · simp at hslots

/-- The first change starts the staging timer, and a later one finds it running (R118). -/
theorem commitLaw_stageAccepted (m : Byte) (c : Change) {s : State} (hs : CommitLaw s)
    (hidle : s.stage.commit = .idle) : CommitLaw (stageAccepted m c s).state := by
  have htimer := hs.timer_of_idle hidle
  unfold stageAccepted
  split
  · refine .of_idle hidle ?_
    cases hc : s.stage.changes with
    | nil => simp [stageChange, hc, stageInto_ne_nil]
    | cons x xs =>
      rw [hc] at htimer
      simpa [stageChange, hc, stageInto_ne_nil] using htimer
  · exact hs

theorem commitLaw_stageEntry (m : Byte) (e : EntryOperands) {s : State} (hs : CommitLaw s) :
    CommitLaw (doStageEntry m e s).state := by
  unfold doStageEntry
  split_ifs with _ hfrozen
  · exact hs
  · exact hs
  · split
    · exact hs
    · exact commitLaw_stageAccepted m _ hs (idle_of_not_frozen hfrozen)

theorem commitLaw_stageRetire (m slot : Byte) {s : State} (hs : CommitLaw s) :
    CommitLaw (doStageRetire m slot s).state := by
  unfold doStageRetire
  split_ifs with _ hfrozen
  · exact hs
  · exact hs
  · split
    · exact hs
    · exact commitLaw_stageAccepted m _ hs (idle_of_not_frozen hfrozen)

/-- The list without a slot's change, by whether one is left (R115, R122). -/
theorem unstaged_eq (k : Slot) (st : Stage) :
    unstaged k st =
      if st.changes.filter (fun c => decide (c.slot ≠ k)) = [] then
        { st with changes := [], owner := none, timer := none }
      else { st with changes := st.changes.filter fun c => decide (c.slot ≠ k) } := by
  simp only [unstaged, List.isEmpty_iff]

/-- An emptied list stops the timer, any other leaves it running (R122). -/
theorem commitLaw_unstaged (k : Slot) {s : State} (hs : CommitLaw s) (hidle : s.stage.commit = .idle) :
    CommitLaw { s with stage := unstaged k s.stage } := by
  rw [unstaged_eq]
  split
  · exact .of_idle hidle (by simp)
  · rename_i hrest
    have hne : s.stage.changes ≠ [] := fun h => hrest (by simp [h])
    exact .of_idle hidle ⟨fun _ => hrest, fun _ => (hs.timer_of_idle hidle).2 hne⟩

theorem commitLaw_unstage (m slot : Byte) {s : State} (hs : CommitLaw s) :
    CommitLaw (doUnstage m slot s).state := by
  unfold doUnstage
  split_ifs with _ hfrozen
  · exact hs
  · exact hs
  · split
    · exact hs
    · split
      · exact commitLaw_unstaged _ hs (idle_of_not_frozen hfrozen)
      · exact hs

theorem commitLaw_discardStaged (m : Byte) {s : State} (hs : CommitLaw s) :
    CommitLaw (doDiscardStaged m s).state := by
  unfold doDiscardStaged
  split_ifs
  · exact hs
  · exact hs
  · exact hs
  · exact .of_emptyStage rfl

theorem commitLaw_commit (m : Byte) {s : State} (hs : CommitLaw s) : CommitLaw (doCommit m s).state := by
  unfold doCommit
  split_ifs
  · exact hs
  · exact hs
  · exact hs
  · split
    · exact hs
    · exact .of_emptyStage rfl

/-- A schedule needs a list and a clock that is not FREE, and stops the timer (R130). -/
theorem commitLaw_commitAt (m : Byte) (time : Time) {s : State} (hs : CommitLaw s) :
    CommitLaw (doCommitAt m time s).state := by
  unfold doCommitAt
  split_ifs with _ hempty _ hfree
  · exact hs
  · exact hs
  · exact hs
  · exact hs
  · exact hs
  · exact hs
  · exact ⟨fun _ _ => ⟨by simpa using hempty, hfree⟩, by simp⟩

/-- A cancelled schedule has a list, and its timer runs from zero (R132). -/
theorem commitLaw_cancelCommit (m : Byte) {s : State} (hs : CommitLaw s) :
    CommitLaw (doCancelCommit m s).state := by
  unfold doCancelCommit
  split_ifs with _ hfrozen
  · exact hs
  · exact .of_idle rfl (by simpa using hs.changes_of_frozen hfrozen)
  · exact hs

/-! ### Parameters -/

theorem commitLaw_setHoldoverTimeout (v : Nat) {s : State} (hs : CommitLaw s) :
    CommitLaw (setHoldoverTimeout v s) := by
  have hset : CommitLaw { s with params := { s.params with holdoverTimeout := v } } := hs
  simp only [setHoldoverTimeout]
  split
  · split
    · exact commitLaw_holdoverExpired hset
    · exact hset
  · exact hset

theorem commitLaw_setStagingTimeout (v : Nat) {s : State} (hs : CommitLaw s) :
    CommitLaw (setStagingTimeout v s) := by
  simp only [setStagingTimeout]
  split
  · split
    · exact commitLaw_stagingExpired _
    · exact hs
  · exact hs

/-- Of two ways that an operation can go, both keep the law. -/
theorem CommitLaw.ite {p : Prop} [Decidable p] {s t : State} (hs : CommitLaw s) (ht : CommitLaw t) :
    CommitLaw (if p then s else t) := by
  split
  · exact hs
  · exact ht

/-- Only the staging timeout reaches the Change Stage, and no parameter frees the clock; in the order of section 8.6. -/
theorem commitLaw_applyParam (id : Byte) (v : Nat) {s : State} (hs : CommitLaw s) : CommitLaw (applyParam id v s) := by
  have hset (p : Params) : CommitLaw { s with params := p } := hs
  have hheld (l : Lane) : CommitLaw (setNoticeLane l s) :=
    (hset { s.params with noticeLane := l }).of_control (control_endHold ..)
  have hstall : CommitLaw (setStallLimit v s) :=
    (hset { s.params with stallLimit := v }).of_control (by simp [setStallLimit])
  exact
    .ite (.ite hs hs) <|
    .ite (hheld _) <|
    .ite (.ite hs hs) <|
    .ite hs <|
    .ite (.ite hs hs) <|
    .ite hs <|
    .ite hs <|
    .ite hs <|
    .ite hs <|
    .ite (hs.of_stage rfl fun hfree => hfree) <|
    .ite (commitLaw_setHoldoverTimeout v hs) <|
    .ite hstall <|
    .ite (commitLaw_setStagingTimeout v hs) hs

/-! ### Requests -/

/-- A reading request leaves the control side of the gate. -/
theorem control_perform_read (m : Byte) {r : Request} (h : r.code.toNat < 0x10) (s : State) :
    control (perform m r s).state = control s := by
  cases r with
  | readStatus => rfl
  | readTime => rfl
  | readEntry slot =>
    simp only [perform, doReadEntry]
    split <;> rfl
  | findTag tag =>
    simp only [perform, doFindTag]
    split
    · rfl
    · split <;> rfl
  | readCounters scope slot clear =>
    simp only [perform, doReadCounters, doReadSlotCounters, doReadGlobalCounters]
    split
    · split
      · rfl
      · simp only
        split <;> rfl
    · simp only
      split <;> rfl
    · rfl
  | readStaged index =>
    simp only [perform, doReadStaged]
    split <;> rfl
  | readParam id =>
    simp only [perform, doReadParam]
    split <;> rfl
  | readTrap offset =>
    simp only [perform, doReadTrap]
    split
    · rfl
    · rfl
    · rfl
    · split
      · rfl
      · split
        · simp only
          split <;> rfl
        · rfl
  | _ => simp [Request.code] at h

theorem commitLaw_perform (m : Byte) (r : Request) {s : State} (hs : CommitLaw s) :
    CommitLaw (perform m r s).state := by
  cases r with
  | stageEntry e => exact commitLaw_stageEntry m e hs
  | stageRetire slot => exact commitLaw_stageRetire m slot hs
  | unstage slot => exact commitLaw_unstage m slot hs
  | discardStaged => exact commitLaw_discardStaged m hs
  | commit => exact commitLaw_commit m hs
  | commitAt time => exact commitLaw_commitAt m time hs
  | cancelCommit => exact commitLaw_cancelCommit m hs
  | setParam id value =>
    simp only [perform, doSetParam]
    split
    · exact hs
    · split_ifs
      · exact hs
      · exact hs
      · exact commitLaw_applyParam id _ hs
      · exact hs
  | timeSet value => exact commitLaw_setTime value hs
  | laneBlock lane =>
    simp only [perform, doLaneBlock]
    split
    · exact hs
    · exact hs.of_control (control_blockLane ..)
  | laneResume lane =>
    simp only [perform, doLaneResume]
    split
    · exact hs
    · split_ifs
      · exact hs
      · exact hs.of_control (control_reopenLane ..)
      · exact hs
  | flush => exact hs.of_control (control_flushDatapath s)
  | restart => exact hs
  | armTrap o =>
    simp only [perform, doArmTrap]
    split <;> exact hs
  | disarmTrap => exact hs
  | ackNotices n =>
    simp only [perform, doAckNotices]
    split <;> exact hs
  | _ => exact hs.of_control (control_perform_read m (by simp [Request.code]) s)

/-! ### The Agent -/

/-- The end of an execution: the reply is made and the Agent works. -/
theorem commitLaw_enterWork (x : AgentState) (r : Reply) {s : State} (hs : CommitLaw s) :
    CommitLaw (enterWork x (createReply r s)) :=
  hs.of_control (control_createReply r s)

theorem commitLaw_execute (q : RequestRecord) {s : State} (hs : CommitLaw s) : CommitLaw (execute q s) := by
  have hstarted := commitLaw_restartStaging q.manager hs
  simp only [execute]
  split
  · exact commitLaw_enterWork _ _ hstarted
  · split
    · exact commitLaw_enterWork _ _ hstarted
    · unfold executeNew
      split
      · exact commitLaw_enterWork _ _ hstarted
      · exact commitLaw_enterWork _ _ (commitLaw_perform q.manager _ hstarted)

theorem commitLaw_restartCheck {s : State} (hs : CommitLaw s) : CommitLaw (restartCheck s) := by
  unfold restartCheck
  split
  · exact commitLaw_hardReset s
  · exact hs

theorem commitLaw_agentRun {s : State} (hs : CommitLaw s) : CommitLaw (agentRun s) := by
  unfold agentRun
  split
  · exact hs
  · split
    · exact commitLaw_restartCheck (commitLaw_execute _ hs)
    · exact hs

theorem commitLaw_takeRequest (m : Sender) (code : Byte) (operands : List Byte) {s : State} (hs : CommitLaw s) :
    CommitLaw (takeRequest m code operands s) :=
  commitLaw_agentRun (hs.of_control (control_intake ..))

/-! ### Receptions -/

theorem commitLaw_intakePayload (allGates : Bool) (payload : List Byte) {s : State} (hs : CommitLaw s) :
    CommitLaw (intakePayload allGates payload s) := by
  unfold intakePayload
  split
  · exact commitLaw_agentRun (hs.of_control (control_intake ..))
  · exact hs

theorem commitLaw_settleRequest (c : Context) (outcome : EndOutcome) (bytes : List Byte) {s : State}
    (hs : CommitLaw s) : CommitLaw (settleRequest c outcome bytes s) := by
  unfold settleRequest
  split
  · exact commitLaw_intakePayload _ _ hs
  · exact commitLaw_intakePayload _ _ hs
  · exact hs

theorem commitLaw_settleClock (c : Context) (outcome : EndOutcome) (bytes : List Byte) {s : State}
    (hs : CommitLaw s) : CommitLaw (settleClock c outcome bytes s) := by
  unfold settleClock
  split
  · split
    · exact commitLaw_useTimeFrame _ _ _ hs
    · exact hs
  · exact hs

theorem commitLaw_frameClosed (c : Context) (outcome : EndOutcome) (bytes : List Byte) {s : State}
    (hs : CommitLaw s) : CommitLaw (frameClosed c outcome bytes s) := by
  have hstored : CommitLaw (settleReservation c outcome (countEnd c outcome s)) := hs.of_control (by simp)
  exact (commitLaw_settleClock c outcome bytes hstored).of_control (by simp [frameClosed])

theorem commitLaw_endEvent (early : Bool) {s : State} (hs : CommitLaw s) : CommitLaw (endEvent early s) := by
  unfold endEvent
  split
  · exact hs
  · split
    · rw [endFrame_eq]
      exact commitLaw_settleRequest _ _ _ (commitLaw_frameClosed _ _ _ hs)
    · exact hs

theorem commitLaw_linkDown (cause : LinkCause) {s : State} (hs : CommitLaw s) : CommitLaw (linkDown cause s) := by
  have hended := commitLaw_endEvent true hs
  refine hended.of_control ?_
  rw [linkDown, control_raise]
  split <;> rfl

/-! ### Commands -/

theorem commitLaw_signalSeen {s : State} (hs : CommitLaw s) : CommitLaw (signalSeen s) := by
  unfold signalSeen
  split <;> exact hs

theorem commitLaw_signalLost {s : State} (hs : CommitLaw s) : CommitLaw (signalLost s) := by
  unfold signalLost
  split
  · exact hs
  · exact commitLaw_linkDown _ hs
  · exact commitLaw_linkDown _ hs

theorem commitLaw_alignmentLost {s : State} (hs : CommitLaw s) : CommitLaw (alignmentLost s) := by
  unfold alignmentLost
  split
  · exact hs
  · exact hs
  · exact commitLaw_linkDown _ hs

theorem commitLaw_invalidGroup {s : State} (hs : CommitLaw s) : CommitLaw (invalidGroup s) := by
  unfold invalidGroup
  split
  · exact hs
  · exact hs
  · exact commitLaw_endEvent true hs

theorem commitLaw_startGroup {s : State} (hs : CommitLaw s) : CommitLaw (startGroup s) := by
  unfold startGroup
  split
  · exact hs
  · exact hs
  · exact commitLaw_endEvent true hs

theorem commitLaw_byteGroup (b : Byte) {s : State} (hs : CommitLaw s) : CommitLaw (byteGroup b s) := by
  unfold byteGroup
  split
  · exact hs
  · exact hs
  · split
    · exact hs
    · exact hs.of_control (control_receiveByte ..)

theorem commitLaw_endGroup {s : State} (hs : CommitLaw s) : CommitLaw (endGroup s) := by
  unfold endGroup
  split
  · exact hs
  · exact hs
  · exact commitLaw_endEvent false hs

theorem commitLaw_idleTimerRunsOut {s : State} (hs : CommitLaw s) : CommitLaw (idleTimerRunsOut s) := by
  unfold idleTimerRunsOut
  split
  · exact commitLaw_elapse _ hs
  · exact hs

theorem commitLaw_stallTimerRunsOut (l : Lane) {s : State} (hs : CommitLaw s) :
    CommitLaw (stallTimerRunsOut l s) := by
  unfold stallTimerRunsOut
  split
  · exact commitLaw_agentRun (commitLaw_restartCheck ((commitLaw_elapse _ hs).of_control (control_enterBlocked ..)))
  · exact hs

theorem commitLaw_sendRunsOut (l : Lane) {s : State} (hs : CommitLaw s) : CommitLaw (sendRunsOut l s) := by
  unfold sendRunsOut
  split
  · exact hs
  · exact commitLaw_agentRun (commitLaw_restartCheck ((commitLaw_elapse _ hs).of_control (control_sendEnd ..)))

theorem commitLaw_headComes (l : Lane) {s : State} (hs : CommitLaw s) : CommitLaw (headComes l s) := by
  unfold headComes
  split
  · exact hs
  · split
    · exact hs
    · exact commitLaw_elapse _ hs

theorem commitLaw_slewIntervalRunsOut {s : State} (hs : CommitLaw s) : CommitLaw (slewIntervalRunsOut s) := by
  unfold slewIntervalRunsOut
  split
  · exact hs
  · exact commitLaw_elapse _ hs

theorem commitLaw_holdoverTimerRunsOut {s : State} (hs : CommitLaw s) : CommitLaw (holdoverTimerRunsOut s) := by
  unfold holdoverTimerRunsOut
  split
  · exact hs
  · exact commitLaw_holdoverExpired (commitLaw_elapse _ hs)

theorem commitLaw_scheduledTimeComes {s : State} (hs : CommitLaw s) : CommitLaw (scheduledTimeComes s) := by
  unfold scheduledTimeComes
  split
  · exact hs
  · exact commitLaw_commitSignal _

theorem commitLaw_stagingTimerRunsOut {s : State} (hs : CommitLaw s) : CommitLaw (stagingTimerRunsOut s) := by
  unfold stagingTimerRunsOut
  split
  · exact hs
  · exact commitLaw_stagingExpired _

theorem commitLaw_retryTimerRunsOut (sequence : BitVec 16) {s : State} (hs : CommitLaw s) :
    CommitLaw (retryTimerRunsOut sequence s) := by
  unfold retryTimerRunsOut
  split
  · exact commitLaw_elapse _ hs
  · exact hs

theorem commitLaw_workEnds {s : State} (hs : CommitLaw s) : CommitLaw (workEnds s) := by
  unfold workEnds
  split
  · exact commitLaw_agentRun hs
  · exact hs

/-- A command out of reset keeps the law where its work does; in reset it changes nothing. -/
theorem commitLaw_act {work : State → State} (hwork : ∀ {s}, CommitLaw s → CommitLaw (work s)) {s t : State}
    (hs : CommitLaw s) (h : act work s = .next t) : CommitLaw t := by
  unfold act at h
  split at h
  · cases h
    exact (hwork hs).of_control (control_settle _)
  · cases h
    exact hs

theorem commitLaw_setWait (l : Lane) (level : Bool) {s : State} (hs : CommitLaw s) : CommitLaw (setWait l level s) := by
  cases l <;> exact hs

/-- Every command keeps the law of the commit state. -/
theorem commitLaw_exec {c : Instr} {s t : State} (hs : CommitLaw s) (h : exec c s = .next t) : CommitLaw t := by
  cases hc : c.request with
  | some p =>
    obtain ⟨m, r⟩ := p
    rw [exec_of_request hc] at h
    exact commitLaw_act (commitLaw_takeRequest m _ _) hs h
  | none =>
    cases c with
    | powerOn straps =>
      cases h
      exact commitLaw_hardReset _
    | resetNAsserted =>
      cases h
      exact hs.of_stage rfl id
    | resetNReleased straps =>
      simp only [exec, execResetNReleased] at h
      split at h
      · cases h
        exact hs
      · cases h
        exact commitLaw_hardReset _
    | signalPresent => exact commitLaw_act (s := setSignal true s) commitLaw_signalSeen hs h
    | lossOfSignal => exact commitLaw_act (s := setSignal false s) commitLaw_signalLost hs h
    | lossOfAlignment => exact commitLaw_act commitLaw_alignmentLost hs h
    | invalidCodeGroup => exact commitLaw_act commitLaw_invalidGroup hs h
    | idleTimerExpiry => exact commitLaw_act commitLaw_idleTimerRunsOut hs h
    | startDelimiter => exact commitLaw_act commitLaw_startGroup hs h
    | dataByte b => exact commitLaw_act (commitLaw_byteGroup b) hs h
    | endDelimiter => exact commitLaw_act commitLaw_endGroup hs h
    | waitAsserted l =>
      exact commitLaw_act (fun ht => ht.of_control (control_waitAsserted l _)) (commitLaw_setWait l true hs) h
    | waitReleased l =>
      exact commitLaw_act (fun ht => ht.of_control (control_waitReleased l _)) (commitLaw_setWait l false hs) h
    | stallTimerExpiry l => exact commitLaw_act (commitLaw_stallTimerRunsOut l) hs h
    | laneSendStart l =>
      exact commitLaw_act (work := fun s => agentRun (sendStart l s))
        (fun ht => commitLaw_agentRun (ht.of_control (control_sendStart l _))) hs h
    | laneSendEnd l => exact commitLaw_act (commitLaw_sendRunsOut l) hs h
    | slewIntervalExpiry => exact commitLaw_act commitLaw_slewIntervalRunsOut hs h
    | holdoverTimerExpiry => exact commitLaw_act commitLaw_holdoverTimerRunsOut hs h
    | scheduledCommit => exact commitLaw_act commitLaw_scheduledTimeComes hs h
    | stagingTimerExpiry => exact commitLaw_act commitLaw_stagingTimerRunsOut hs h
    | retryTimerExpiry sequence => exact commitLaw_act (commitLaw_retryTimerRunsOut sequence) hs h
    | workIntervalEnd => exact commitLaw_act commitLaw_workEnds hs h
    | badRequest m code operands => exact commitLaw_act (commitLaw_takeRequest m code operands) hs h
    | releaseTimeComing l => exact commitLaw_act (commitLaw_headComes l) hs h
    | _ => simp [Instr.request] at hc

/-- Settles O55: every command keeps the law, and so does a period that passes. -/
theorem commitLawIsKept : Obligations.CommitLawIsKept :=
  fun _ _ hs h => step_keeps (P := CommitLaw) (fun _ _ _ he ht => commitLaw_exec ht he) (fun _ _ ht => ht)
    (fun _ ht => (commitLaw_elapse 1 ht).of_control (control_settle _)) h hs

end Sys2Proof.Machine

/-! The statements about staging, withdrawing and committing changes by request (R115 to R124, R129, R130, R132,
R177). -/

namespace Sys2Proof.Machine

open Sys2Proof

/-! ### The checks of a request of the Change Stage -/

/-- A list is owned elsewhere where it has an owner, and another than the requester (R117). -/
theorem ownedElsewhere_iff {m : Byte} {st : Stage} :
    ownedElsewhere m st = true ↔ st.owner ≠ none ∧ st.owner ≠ some m := by
  unfold ownedElsewhere
  cases st.owner <;> simp

/-- What a state-changing request leaves, by the answer of its own rule. -/
def answeredBy (m : Sender) (code : Byte) (a : Answer) : State := answered m code a.result a.data true a.state

/-- A refusal changes nothing but for its reply (R177). -/
theorem answeredBy_refusal (m : Sender) (code : Byte) (r : Result) (t : State) :
    answeredBy m code (refusal r t) = answered m code r [] true t := rfl

/-- An accepted state-changing request is answered by its own rule from the state in which it is taken. -/
theorem exec_of_taken {i : Instr} {m : Sender} {r : Request} {s t : State} (hi : i.request = some (m, r))
    (hd : decodeRequest r.code r.operands = some r) (hr : r ≠ .restart) (hc : stateChanging r = true) (ha : Accepts m s)
    (ht : taken m s = t) : exec i s = .next (settle (answeredBy m r.code (perform m.manager r t))) := by
  subst ht
  rw [exec_of_accepts hi hd hr ha, hc]
  rfl

/-! ### COMMIT, COMMIT-AT and CANCEL-COMMIT -/

/-- Validation reads the Stream Table and the list. -/
theorem validate_congr {s t : State} (htable : t.table = s.table) (hchanges : t.stage.changes = s.stage.changes) :
    validate t = validate s := by
  have hentry (k : Slot) : t.entry k = s.entry k := by rw [State.entry, htable, State.entry]
  have hafter (k : Slot) : tagAfter t k = tagAfter s k := by
    unfold tagAfter
    rw [hentry, hchanges]
  have htaken (k : Slot) (tag : Tag) : tagTaken t k tag = tagTaken s k tag := by simp only [tagTaken, hafter]
  have hfailure (c : Change) : changeFailure t c = changeFailure s c := by
    cases c with
    | setEntry k into config reset => simp only [changeFailure_setEntry, htaken, hentry]
    | retire k => simp only [changeFailure_retire, hentry]
  have hfirst (cs : List Change) (i : Nat) : firstFailure t i cs = firstFailure s i cs := by
    induction cs generalizing i with
    | nil => rfl
    | cons c cs ih => simp only [firstFailure, hfailure, ih]
  rw [validate, validate, hchanges, hfirst]

theorem validate_taken (m : Sender) (s : State) : validate (taken m s) = validate s :=
  validate_congr (restartStaging_table m.manager s) (taken_changes m s)

theorem decode_commitAt (time : Time) :
    decodeRequest (Request.commitAt time).code (Request.commitAt time).operands = some (.commitAt time) :=
  congrArg (fun t => some (Request.commitAt t)) (join48_extract time)

/-- Settles O38: read at the state in which the request is taken, each statement is the request's own chain of checks. -/
theorem commitsAreMadeScheduledAndCancelled : Obligations.CommitsAreMadeScheduledAndCancelled := by
  intro m s ha
  have hchanges := taken_changes m s
  have howner := taken_owner m s
  have hcommit := taken_commit m s
  have hclock := taken_clock m s
  have hvalid := validate_taken m s
  generalize ht : taken m s = t at hchanges howner hcommit hclock hvalid
  simp only [← hchanges, ← howner, ← hcommit, ← hclock, ← hvalid]
  refine ⟨?_, fun time => ?_, ?_⟩
  · rw [exec_of_taken (i := .commit m) rfl rfl (by simp) rfl ha ht]
    simp only [perform, doCommit, ownedElsewhere_iff, List.isEmpty_iff, stageFrozen_iff, apply_ite (answeredBy m _),
      answeredBy_refusal]
    cases validate t <;> rfl
  · rw [exec_of_taken (i := .commitAt m time) rfl (decode_commitAt time) (by simp) rfl ha ht]
    simp only [perform, doCommitAt, ownedElsewhere_iff, List.isEmpty_iff, stageFrozen_iff, hasCome, decide_eq_true_eq,
      apply_ite (answeredBy m _), answeredBy_refusal]
    rfl
  · rw [exec_of_taken (i := .cancelCommit m) rfl rfl (by simp) rfl ha ht]
    simp only [perform, doCancelCommit, ownedElsewhere_iff, stageFrozen_iff, ne_eq, ite_not, apply_ite (answeredBy m _),
      answeredBy_refusal]
    rfl

/-! ### UNSTAGE and DISCARD-STAGED -/

/-- The list has a change for a slot exactly where it names the slot. -/
theorem changeFor_isSome_iff {cs : List Change} {k : Slot} :
    (changeFor cs k).isSome = true ↔ k ∈ cs.map Change.slot := by
  simp [changeFor, List.find?_isSome]

/-- Leaving a slot's change out keeps the list's length exactly where there is none. -/
theorem not_changeFor_isSome_iff {cs : List Change} {k : Slot} :
    ¬ (changeFor cs k).isSome = true ↔ (cs.filter fun c => decide (c.slot ≠ k)).length = cs.length := by
  rw [List.length_filter_eq_length_iff, changeFor_isSome_iff]
  simp

/-- Settles O36, check by check at the state in which the request is taken; of UNSTAGE by the operand's range and by
whether a change is left. -/
theorem stagedChangesAreWithdrawn : Obligations.StagedChangesAreWithdrawn := by
  intro m s ha
  have hchanges := taken_changes m s
  have howner := taken_owner m s
  have hcommit := taken_commit m s
  generalize ht : taken m s = t at hchanges howner hcommit
  simp only [← hchanges, ← howner, ← hcommit]
  refine ⟨fun slot => ?_, ?_⟩
  · rw [exec_of_taken (i := .unstage m slot) rfl rfl (by simp) rfl ha ht]
    simp only [perform, doUnstage, ownedElsewhere_iff, stageFrozen_iff, apply_ite (answeredBy m _),
      answeredBy_refusal]
    by_cases hrange : 64 ≤ slot.toNat
    · simp only [slotOf_of_ge hrange, if_pos hrange]
      rfl
    · have hk : slot.toNat = (⟨slot.toNat, Nat.not_le.1 hrange⟩ : Slot).val := rfl
      simp only [slotOf_of_eq hk, if_neg hrange]
      have hrest : (t.stage.changes.filter fun c => decide (c.slot.val ≠ slot.toNat)) =
          t.stage.changes.filter fun c => decide (c.slot ≠ ⟨slot.toNat, Nat.not_le.1 hrange⟩) := by
        simp [Fin.ext_iff]
      simp only [hrest, ← not_changeFor_isSome_iff, unstaged_eq]
      split_ifs with howned hfrozen hpresent hlast
      · rfl
      · rfl
      · rw [hlast, not_not.1 hfrozen]
        rfl
      · rfl
      · rfl
  · rw [exec_of_taken (i := .discardStaged m) rfl rfl (by simp) rfl ha ht]
    simp only [perform, doDiscardStaged, ownedElsewhere_iff, stageFrozen_iff, List.isEmpty_iff,
      apply_ite (answeredBy m _), answeredBy_refusal]
    rfl

/-! ### The operands of STAGE-ENTRY (R120, R177) -/

theorem slotOf_isSome_iff {b : Byte} : (slotOf b).isSome = true ↔ b.toNat ≤ 63 := by
  unfold slotOf
  split <;> grind

theorem byteOf_of_slotOf {b : Byte} {k : Slot} (h : slotOf b = some k) : byteOf k.val = b := by
  unfold slotOf at h
  split at h <;> cases h
  exact byteOf_of_eq rfl

theorem commitIntoOf_isSome_iff {b : Byte} : (commitIntoOf b).isSome = true ↔ b = 1 ∨ b = 2 := by
  have hone : b = 1 ↔ b.toNat = 1 := BitVec.toNat_inj.symm
  have htwo : b = 2 ↔ b.toNat = 2 := BitVec.toNat_inj.symm
  rw [hone, htwo]
  unfold commitIntoOf
  split <;> grind

theorem commitIntoByte_of_commitIntoOf {b : Byte} {x : CommitInto} (h : commitIntoOf b = some x) :
    commitIntoByte x = b := by
  unfold commitIntoOf at h
  split at h <;> cases h <;> exact byteOf_of_eq ‹_›

theorem laneSetOf_isSome_iff {b : Byte} : (laneSetOf b).isSome = true ↔ b.toNat ≤ 3 := by
  unfold laneSetOf
  split <;> grind

theorem laneSetByte_of_laneSetOf {b : Byte} {x : LaneSet} (h : laneSetOf b = some x) : laneSetByte x = b := by
  unfold laneSetOf at h
  split at h <;> cases h
  obtain rfl | rfl | rfl | rfl : b = 0 ∨ b = 1 ∨ b = 2 ∨ b = 3 := by bv_omega
  all_goals rfl

theorem timingOf_isSome_iff {b : Byte} : (timingOf b).isSome = true ↔ b.toNat ≤ 2 := by
  unfold timingOf
  split <;> grind

theorem timingByte_of_timingOf {b : Byte} {x : Timing} (h : timingOf b = some x) : timingByte x = b := by
  unfold timingOf at h
  split at h <;> cases h <;> exact byteOf_of_eq ‹_›

theorem latePolicyOf_isSome_iff {b : Byte} : (latePolicyOf b).isSome = true ↔ b.toNat ≤ 1 := by
  unfold latePolicyOf
  split <;> grind

theorem latePolicyByte_of_latePolicyOf {b : Byte} {x : LatePolicy} (h : latePolicyOf b = some x) :
    latePolicyByte x = b := by
  unfold latePolicyOf at h
  split at h <;> cases h <;> exact byteOf_of_eq ‹_›

theorem errorPolicyOf_isSome_iff {b : Byte} : (errorPolicyOf b).isSome = true ↔ b.toNat ≤ 1 := by
  unfold errorPolicyOf
  split <;> grind

theorem errorPolicyByte_of_errorPolicyOf {b : Byte} {x : ErrorPolicy} (h : errorPolicyOf b = some x) :
    errorPolicyByte x = b := by
  unfold errorPolicyOf at h
  split at h <;> cases h <;> exact byteOf_of_eq ‹_›

theorem bitOf_isSome_iff {b : Byte} : (bitOf b).isSome = true ↔ b.toNat ≤ 1 := by
  unfold bitOf
  split <;> grind

theorem bitAt_of_bitOf {b : Byte} {x : Bool} (h : bitOf b = some x) : bitAt 0 x = b := by
  unfold bitOf at h
  split at h <;> cases h <;> exact byteOf_of_eq ‹_›

theorem continuityOf_isSome_iff {b : Byte} : (continuityOf b).isSome = true ↔ b.toNat ≤ 1 := by
  unfold continuityOf
  split <;> grind

theorem continuityByte_of_continuityOf {b : Byte} {x : ContinuityMode} (h : continuityOf b = some x) :
    continuityByte x = b := by
  unfold continuityOf at h
  split at h <;> cases h <;> exact byteOf_of_eq ‹_›

/-- What a change spelt by operands takes from each of them, and the ranges of tag, hold offset and quota. -/
structure Spells (e : EntryOperands) (slot : Slot) (into : CommitInto) (config : EntryConfig) (reset : Bool) :
    Prop where
  slot : slotOf e.slot = some slot
  state : commitIntoOf e.state = some into
  tag : config.tag = e.tag
  lanes : laneSetOf e.lanes = some config.lanes
  timing : timingOf e.timing = some config.timing
  holdOffset : config.holdOffset = e.holdOffset
  latePolicy : latePolicyOf e.latePolicy = some config.latePolicy
  errorPolicy : errorPolicyOf e.errorPolicy = some config.errorPolicy
  stamping : bitOf e.stamping = some config.stamping
  continuity : continuityOf e.continuity = some config.continuity
  holdQuota : config.holdQuota = e.holdQuota
  resetContinuity : bitOf e.resetContinuity = some reset
  inRange : ConfigInRange config

theorem spells_of_changeOf {e : EntryOperands} {c : Change} (h : changeOf e = some c) :
    ∃ slot into config reset, c = .setEntry slot into config reset ∧ Spells e slot into config reset := by
  have hrange := changeOf_inRange h
  simp only [changeOf, Option.bind_eq_bind, Option.bind_eq_some_iff] at h
  obtain ⟨slot, hslot, into, hinto, lanes, hlanes, timing, htiming, late, hlate, err, herr, stamping, hstamping, cont,
    hcont, reset, hreset, h⟩ := h
  split_ifs at h
  simp only [Option.some.injEq] at h
  exact ⟨slot, into, _, reset, h.symm, hslot, hinto, rfl, hlanes, htiming, rfl, hlate, herr, hstamping, hcont, rfl,
    hreset, hrange _ _ _ _ h.symm⟩

/-- The operands of a STAGE-ENTRY spell a change exactly where each is in its range (R120, R177). -/
theorem changeOf_isSome_iff (e : EntryOperands) :
    (changeOf e).isSome = true ↔
      e.slot.toNat ≤ 63 ∧ (e.state = 1 ∨ e.state = 2) ∧ e.tag.toNat ≤ 0xEFFF ∧ e.lanes.toNat ≤ 3 ∧
        e.timing.toNat ≤ 2 ∧ e.holdOffset.toNat ≤ 50000000 ∧ e.latePolicy.toNat ≤ 1 ∧ e.errorPolicy.toNat ≤ 1 ∧
        e.stamping.toNat ≤ 1 ∧ e.continuity.toNat ≤ 1 ∧ 1 ≤ e.holdQuota.toNat ∧ e.resetContinuity.toNat ≤ 1 := by
  constructor
  · intro h
    obtain ⟨c, hc⟩ := Option.isSome_iff_exists.1 h
    obtain ⟨slot, into, config, reset, -, hs⟩ := spells_of_changeOf hc
    obtain ⟨htag, hoffset, hquota⟩ := hs.inRange
    rw [hs.tag] at htag
    rw [hs.holdOffset] at hoffset
    rw [hs.holdQuota] at hquota
    exact ⟨slotOf_isSome_iff.1 (by simp [hs.slot]), commitIntoOf_isSome_iff.1 (by simp [hs.state]),
      Nat.le_of_lt_succ htag,
      laneSetOf_isSome_iff.1 (by simp [hs.lanes]), timingOf_isSome_iff.1 (by simp [hs.timing]), hoffset,
      latePolicyOf_isSome_iff.1 (by simp [hs.latePolicy]), errorPolicyOf_isSome_iff.1 (by simp [hs.errorPolicy]),
      bitOf_isSome_iff.1 (by simp [hs.stamping]), continuityOf_isSome_iff.1 (by simp [hs.continuity]), hquota,
      bitOf_isSome_iff.1 (by simp [hs.resetContinuity])⟩
  · rintro ⟨hslot, hstate, htag, hlanes, htiming, hoffset, hlate, herr, hstamping, hcont, hquota, hreset⟩
    obtain ⟨slot, hslot⟩ := Option.isSome_iff_exists.1 (slotOf_isSome_iff.2 hslot)
    obtain ⟨into, hinto⟩ := Option.isSome_iff_exists.1 (commitIntoOf_isSome_iff.2 hstate)
    obtain ⟨lanes, hlanes⟩ := Option.isSome_iff_exists.1 (laneSetOf_isSome_iff.2 hlanes)
    obtain ⟨timing, htiming⟩ := Option.isSome_iff_exists.1 (timingOf_isSome_iff.2 htiming)
    obtain ⟨late, hlate⟩ := Option.isSome_iff_exists.1 (latePolicyOf_isSome_iff.2 hlate)
    obtain ⟨err, herr⟩ := Option.isSome_iff_exists.1 (errorPolicyOf_isSome_iff.2 herr)
    obtain ⟨stamping, hstamping⟩ := Option.isSome_iff_exists.1 (bitOf_isSome_iff.2 hstamping)
    obtain ⟨cont, hcont⟩ := Option.isSome_iff_exists.1 (continuityOf_isSome_iff.2 hcont)
    obtain ⟨reset, hreset⟩ := Option.isSome_iff_exists.1 (bitOf_isSome_iff.2 hreset)
    have hrange : e.tag.toNat < firstGateTag ∧ e.holdOffset.toNat ≤ maxHoldOffset ∧ 1 ≤ e.holdQuota.toNat :=
      ⟨Nat.lt_succ_of_le htag, hoffset, hquota⟩
    simp [changeOf, hslot, hinto, hlanes, htiming, hlate, herr, hstamping, hcont, hreset, hrange]

/-- What is kept of the operands is exactly what was sent (R116, R123). -/
theorem changeBytes_of_changeOf {e : EntryOperands} {c : Change} (h : changeOf e = some c) :
    changeBytes c = encodeEntryOperands e ∧ changeKindByte c = 1 := by
  obtain ⟨slot, into, config, reset, rfl, hs⟩ := spells_of_changeOf h
  refine ⟨?_, rfl⟩
  simp only [changeBytes, configBytes, encodeEntryOperands, byteOf_of_slotOf hs.slot,
    commitIntoByte_of_commitIntoOf hs.state, hs.tag, laneSetByte_of_laneSetOf hs.lanes,
    timingByte_of_timingOf hs.timing, hs.holdOffset, latePolicyByte_of_latePolicyOf hs.latePolicy,
    errorPolicyByte_of_errorPolicyOf hs.errorPolicy, bitAt_of_bitOf hs.stamping,
    continuityByte_of_continuityOf hs.continuity, hs.holdQuota, bitAt_of_bitOf hs.resetContinuity]
  simp

/-! ### STAGE-ENTRY and STAGE-RETIRE -/

theorem decode_stageEntry (e : EntryOperands) :
    decodeRequest (Request.stageEntry e).code (Request.stageEntry e).operands = some (.stageEntry e) := by
  have htag := join16_extract e.tag
  have hoffset := join32_extract e.holdOffset
  have hbytes : decodeRequest (Request.stageEntry e).code (Request.stageEntry e).operands =
      some (.stageEntry
        { e with
          tag := join16 (e.tag.extractLsb' 8 8) (e.tag.extractLsb' 0 8)
          holdOffset := join32 (e.holdOffset.extractLsb' 24 8) (e.holdOffset.extractLsb' 16 8)
            (e.holdOffset.extractLsb' 8 8) (e.holdOffset.extractLsb' 0 8) }) := rfl
  rw [hbytes, htag, hoffset]

/-- The position of a slot's change is the slot's position among the slots named. -/
theorem changeIndex_eq (cs : List Change) (k : Slot) : changeIndex cs k = (cs.map Change.slot).idxOf k := by
  rw [changeIndex, List.idxOf, List.findIdx_map]
  congr 1

/-- The list with a change staged, by whether it names the change's slot (R115). -/
theorem stageInto_eq (cs : List Change) (c : Change) :
    stageInto cs c =
      if c.slot ∈ cs.map Change.slot then cs.map fun x => if x.slot = c.slot then c else x else cs ++ [c] := by
  unfold stageInto
  exact if_congr changeFor_isSome_iff rfl rfl

/-- The answer to a change in range: check 4 of R120, then the list with it, owner and timer (R115, R117, R118). -/
theorem answeredBy_stageAccepted (m : Sender) (code : Byte) (c : Change) (t : State) :
    let list :=
      if c.slot ∈ t.stage.changes.map Change.slot then t.stage.changes.map fun x => if x.slot = c.slot then c else x
      else t.stage.changes ++ [c]
    answeredBy m code (stageAccepted m.manager c t) =
      if c.slot ∈ t.stage.changes.map Change.slot ∨ t.stage.changes.length < 16 then
        answered m code .ok [byteOf ((list.map Change.slot).idxOf c.slot), byteOf list.length] true
          { t with
            stage :=
              { t.stage with
                changes := list
                owner := if t.stage.changes = [] then some m.manager else t.stage.owner
                timer := if t.stage.changes = [] then some 0 else t.stage.timer } }
      else answered m code .listFull [] true t := by
  intro list
  have hlist : stageInto t.stage.changes c = list := stageInto_eq ..
  simp only [stageAccepted, changeFor_isSome_iff, changeCapacity, stageChange, hlist, changeIndex_eq, List.isEmpty_iff,
    apply_ite (answeredBy m code), answeredBy_refusal]
  rfl

/-- Settles O35: the checks at the state in which the request is taken, with one answer for both kinds of change, then
the ranges of R120 and R177. -/
theorem changesAreCheckedAndStaged : Obligations.ChangesAreCheckedAndStaged := by
  refine ⟨fun m s ha => ?_, fun e => ⟨changeOf_isSome_iff e, fun c => changeBytes_of_changeOf⟩⟩
  have hchanges := taken_changes m s
  have howner := taken_owner m s
  have hcommit := taken_commit m s
  generalize ht : taken m s = t at hchanges howner hcommit
  simp only [← hchanges, ← howner, ← hcommit]
  refine ⟨fun e => ?_, fun slot => ?_⟩
  · rw [exec_of_taken (i := .stageEntry m e) rfl (decode_stageEntry e) (by simp) rfl ha ht]
    simp only [perform, doStageEntry, ownedElsewhere_iff, stageFrozen_iff, apply_ite (answeredBy m _),
      answeredBy_refusal]
    cases changeOf e with
    | none => rfl
    | some c =>
      simp only [answeredBy_stageAccepted]
      rfl
  · rw [exec_of_taken (i := .stageRetire m slot) rfl rfl (by simp) rfl ha ht]
    simp only [perform, doStageRetire, ownedElsewhere_iff, stageFrozen_iff, apply_ite (answeredBy m _),
      answeredBy_refusal]
    by_cases hrange : slot.toNat < 64
    · simp only [slotOf, dif_pos hrange, answeredBy_stageAccepted]
      rfl
    · simp only [slotOf, dif_neg hrange]
      rfl

end Sys2Proof.Machine

/-! The statement about the raising of notices (R155, R156, R158, R159, R164). -/

namespace Sys2Proof.Machine

open Sys2Proof

/-! ### A raise, case by case (R158, R159) -/

theorem sameSubject_iff {cls : NoticeClass} {slot : Option Slot} {n : Notice} :
    sameSubject cls slot n = true ↔ n.cls = cls ∧ n.slot = slot := by
  simp [sameSubject]

/-- The queue has a record of the class and slot (R158). -/
theorem any_sameSubject_iff {cls : NoticeClass} {slot : Option Slot} {queue : List Notice} :
    queue.any (sameSubject cls slot) = true ↔ ∃ n ∈ queue, n.cls = cls ∧ n.slot = slot := by
  simp only [List.any_eq_true, sameSubject_iff]

section
variable {cls : NoticeClass} {slot : Option Slot} {s : State}

/-- With notices off or the class disabled a raise is ignored. -/
theorem raise_of_disabled
    (h : s.params.noticeDestination = 0 ∨ classEnabled s.params.classMask cls = false) (tag : Tag)
    (detail : BitVec 32) : raise cls slot tag detail s = s := if_pos h

/-- With a record of its class and slot in the queue a raise is folded into it. -/
theorem raise_of_record
    (henabled : ¬(s.params.noticeDestination = 0 ∨ classEnabled s.params.classMask cls = false))
    (hrecord : ∃ n ∈ s.notices.queue, n.cls = cls ∧ n.slot = slot) (tag : Tag) (detail : BitVec 32) :
    raise cls slot tag detail s =
      { s with
        notices :=
          { s.notices with
            queue := s.notices.queue.map fun n =>
              if sameSubject cls slot n then coalesce s.clock.time s.params.retryLimit tag detail n else n } } := by
  rw [raise, if_neg henabled, if_pos (any_sameSubject_iff.2 hrecord)]

/-- With no such record and room in the queue a raise makes a new record. -/
theorem raise_of_room
    (henabled : ¬(s.params.noticeDestination = 0 ∨ classEnabled s.params.classMask cls = false))
    (hnew : ¬∃ n ∈ s.notices.queue, n.cls = cls ∧ n.slot = slot) (hroom : s.notices.queue.length < noticeCapacity)
    (tag : Tag) (detail : BitVec 32) :
    raise cls slot tag detail s =
      { s with
        notices :=
          { queue := s.notices.queue ++ [newNotice s.notices s.clock.time s.params.retryLimit cls slot tag detail]
            counter := s.notices.counter + 1
            loss := false } } := by
  rw [raise, if_neg henabled, if_neg (mt any_sameSubject_iff.1 hnew), if_pos hroom]

/-- With no such record and the queue full a raise is lost and counted. -/
theorem raise_of_full
    (henabled : ¬(s.params.noticeDestination = 0 ∨ classEnabled s.params.classMask cls = false))
    (hnew : ¬∃ n ∈ s.notices.queue, n.cls = cls ∧ n.slot = slot) (hfull : ¬s.notices.queue.length < noticeCapacity)
    (tag : Tag) (detail : BitVec 32) :
    raise cls slot tag detail s =
      { s with
        notices := { s.notices with loss := true }
        counters := { s.counters with noticesLost := s.counters.noticesLost + 1 } } := by
  rw [raise, if_neg henabled, if_neg (mt any_sameSubject_iff.1 hnew), if_neg hfull]

end

/-- A record's count rises by one up to 255, and stands there (R158). -/
theorem coalesce_count {n : Notice} (h : n.count ≤ 255) (now : Time) (retryLimit : Nat) (tag : Tag)
    (detail : BitVec 32) : (coalesce now retryLimit tag detail n).count = min 255 (n.count + 1) := by
  dsimp only [coalesce]
  split <;> omega

/-- Settles O40, by the four cases of a raise. -/
theorem raisesFoldQueueOrAreLost : Obligations.RaisesFoldQueueOrAreLost := by
  intro cls slot tag detail s now here fold hcount
  have hfold {n : Notice} (hn : n ∈ s.notices.queue) : coalesce now s.params.retryLimit tag detail n = fold n := by
    simp only [fold, ← coalesce_count (hcount n hn) now s.params.retryLimit tag detail]
    cases hc : n.condition <;> simp [coalesce, hc]
  split_ifs with hoff hrecord hroom
  · exact raise_of_disabled hoff tag detail
  · rw [raise_of_record hoff hrecord]
    refine congrArg (fun q => { s with notices := { s.notices with queue := q } }) (List.map_congr_left fun n hn => ?_)
    rw [hfold hn]
    exact if_congr sameSubject_iff rfl rfl
  · exact raise_of_room hoff hrecord hroom tag detail
  · exact raise_of_full hoff hrecord hroom tag detail

end Sys2Proof.Machine

/-! The statement about notice records: the send end, the retry timer and the acknowledgement (R160 to R163). -/

namespace Sys2Proof.Machine

open Sys2Proof

/-! ### Records by their sequence (R155) -/

section
variable {queue : List Notice} {n : Notice}

/-- Where no two records share a sequence, the sequence names the record. -/
theorem sequence_eq_iff (hnodup : (queue.map (·.sequence)).Nodup) (hn : n ∈ queue) {x : Notice} (hx : x ∈ queue) :
    x.sequence = n.sequence ↔ x = n :=
  ⟨fun h => List.inj_on_of_nodup_map hnodup hx hn h, congrArg _⟩

/-- The record of a sequence is found. -/
theorem find_sequence (hnodup : (queue.map (·.sequence)).Nodup) (hn : n ∈ queue) :
    queue.find? (fun x => decide (x.sequence = n.sequence)) = some n := by
  cases hfound : queue.find? (fun x => decide (x.sequence = n.sequence)) with
  | none => simpa using List.find?_eq_none.1 hfound n hn
  | some x =>
    have hsequence : x.sequence = n.sequence := by simpa using List.find?_some hfound
    rw [(sequence_eq_iff hnodup hn (List.mem_of_find?_eq_some hfound)).1 hsequence]

/-- A change to the record of a sequence, whatever the change reads of that record. -/
theorem map_sequence (hnodup : (queue.map (·.sequence)).Nodup) (hn : n ∈ queue) (f : Notice → Notice) :
    (queue.map fun x => if x.sequence = n.sequence then f x else x) = queue.map fun x => if x = n then f n else x := by
  refine List.map_congr_left fun x hx => ?_
  by_cases h : x = n
  · rw [if_pos h, h, if_pos rfl]
  · rw [if_neg h, if_neg (mt (sequence_eq_iff hnodup hn hx).1 h)]

/-- The queue without the record of a sequence. -/
theorem filter_sequence_ne (hnodup : (queue.map (·.sequence)).Nodup) (hn : n ∈ queue) :
    (queue.filter fun x => decide (x.sequence ≠ n.sequence)) = queue.filter (· ≠ n) :=
  List.filter_congr fun _ hx => decide_eq_decide.2 (not_congr (sequence_eq_iff hnodup hn hx))

end

/-! ### The send end of a record's frame (R161) -/

/-- Without a record of the sequence nothing happens. -/
theorem noticeSendEnd_of_not_mem {sequence : BitVec 16} {s : State}
    (h : sequence ∉ s.notices.queue.map (·.sequence)) : noticeSendEnd sequence s = s := by
  have hnone : s.notices.queue.find? (fun x => decide (x.sequence = sequence)) = none :=
    List.find?_eq_none.2 fun x hx hsequence => h (List.mem_map.2 ⟨x, hx, by simpa using hsequence⟩)
  rw [noticeSendEnd, hnone]

section
variable {s : State} {n : Notice} (hnodup : (s.notices.queue.map (·.sequence)).Nodup) (hn : n ∈ s.notices.queue)
include hnodup hn

/-- A record changed during the send is DUE from now. -/
theorem noticeSendEnd_of_changed (hcondition : n.condition = .inFlight true) :
    noticeSendEnd n.sequence s =
      { s with
        notices :=
          { s.notices with
            queue := s.notices.queue.map fun x =>
              if x = n then { n with condition := .due, nextTransmission := s.clock.time } else x } } := by
  simp only [noticeSendEnd, find_sequence hnodup hn, hcondition]
  rw [map_sequence hnodup hn fun x => { x with condition := .due, nextTransmission := s.clock.time }]

/-- An unchanged record without retries expires and is counted. -/
theorem noticeSendEnd_of_expired (hcondition : n.condition = .inFlight false) (hretries : n.retriesLeft = 0) :
    noticeSendEnd n.sequence s =
      { s with
        notices := { s.notices with queue := s.notices.queue.filter (· ≠ n) }
        counters := { s.counters with noticesExpired := s.counters.noticesExpired + 1 } } := by
  simp only [noticeSendEnd, find_sequence hnodup hn, hcondition, if_pos hretries]
  rw [filter_sequence_ne hnodup hn]

/-- An unchanged record with retries left waits from zero. -/
theorem noticeSendEnd_of_retries (hcondition : n.condition = .inFlight false) (hretries : n.retriesLeft ≠ 0) :
    noticeSendEnd n.sequence s =
      { s with
        notices :=
          { s.notices with
            queue := s.notices.queue.map fun x => if x = n then { n with condition := .waiting 0 } else x } } := by
  simp only [noticeSendEnd, find_sequence hnodup hn, hcondition, if_neg hretries]
  rw [map_sequence hnodup hn fun x => { x with condition := .waiting 0 }]

end

/-! ### The retry timer (R161, R162) -/

theorem exec_retryTimerExpiry {s : State} (hr : s.pins.resetN = true) (sequence : BitVec 16) :
    exec (.retryTimerExpiry sequence) s = .next (settle (retryTimerRunsOut sequence s)) := act_of_running hr rfl

theorem noticesHeld_iff {s : State} : noticesHeld s = true ↔ (s.lane s.params.noticeLane).state = .blocked :=
  blocked_eq_true_iff ..

/-- While the transmissions are held a retry timer stands. -/
theorem retryTimerRunsOut_of_held {s : State} (h : (s.lane s.params.noticeLane).state = .blocked)
    (sequence : BitVec 16) : retryTimerRunsOut sequence s = s := by
  rw [retryTimerRunsOut, noticesHeld_iff.2 h]

/-- Time advances the retry timers, but not while they are held. -/
theorem elapse_queue (k : Nat) (s : State) :
    (elapse k s).notices.queue =
      if noticesHeld s = true then s.notices.queue else s.notices.queue.map (noticeAfter k) := by
  unfold elapse
  dsimp only
  split <;> rfl

/-- The time that passes advances the timers alone: of its sequence a record keeps its retries left. -/
theorem retriesLeft_of_mem_elapse {s : State} {n x : Notice} {k : Nat}
    (hnodup : (s.notices.queue.map (·.sequence)).Nodup) (hn : n ∈ s.notices.queue)
    (hx : x ∈ (elapse k s).notices.queue) (hsequence : x.sequence = n.sequence) : x.retriesLeft = n.retriesLeft := by
  rw [elapse_queue] at hx
  split at hx
  · rw [(sequence_eq_iff hnodup hn hx).1 hsequence]
  · obtain ⟨y, hy, rfl⟩ := List.mem_map.1 hx
    have hyn : y = n := (sequence_eq_iff hnodup hn hy).1 hsequence
    rw [← hyn]
    rfl

/-- A WAITING record's timer runs out: the rest of the interval passes, and the record is DUE with one retry fewer. -/
theorem retryTimerRunsOut_of_waiting {s : State} {n : Notice} {e : Nat}
    (hnodup : (s.notices.queue.map (·.sequence)).Nodup) (hn : n ∈ s.notices.queue) (hwaiting : n.condition = .waiting e)
    (hfree : (s.lane s.params.noticeLane).state ≠ .blocked) :
    let t := elapse (s.params.retryInterval * 125000 - e) s
    retryTimerRunsOut n.sequence s =
      { t with
        notices :=
          { t.notices with
            queue := t.notices.queue.map fun x =>
              if x.sequence = n.sequence then
                { x with
                  retriesLeft := n.retriesLeft - 1
                  condition := .due
                  nextTransmission := t.clock.time }
              else x } } := by
  intro t
  have htimer : retryTimerOf n.sequence s = some e := by
    simp only [retryTimerOf, find_sequence hnodup hn, Option.bind_some, hwaiting]
  have hrunsOut : retryTimerRunsOut n.sequence s = expireRetry n.sequence t := by
    rw [retryTimerRunsOut, Bool.eq_false_iff.2 (mt noticesHeld_iff.1 hfree), htimer]
    rfl
  rw [hrunsOut]
  refine congrArg (fun q => { t with notices := { t.notices with queue := q } }) (List.map_congr_left fun x hx => ?_)
  split
  · next hsequence => rw [retryExpired, retriesLeft_of_mem_elapse hnodup hn hx hsequence]
  · rfl

/-! ### The acknowledgement (R163) -/

theorem taken_notices (m : Sender) (s : State) : (taken m s).notices = s.notices := restartStaging_notices ..

theorem decode_ackNotices (n : BitVec 16) :
    decodeRequest (Request.ackNotices n).code (Request.ackNotices n).operands = some (.ackNotices n) :=
  congrArg (fun v => some (Request.ackNotices v)) (join16_extract n)

/-- What an acknowledgement of N leaves in the queue. -/
theorem filter_not_ackCovers (n : BitVec 16) (queue : List Notice) :
    (queue.filter fun r => !ackCovers n r) = queue.filter fun r => decide (32768 ≤ (n - r.sequence).toNat) :=
  List.filter_congr fun r _ => by rw [ackCovers, ← decide_not, decide_eq_decide, Nat.not_lt]

/-- Settles O41, part by part: the send end by the record's condition, the retry timer by the hold, the acknowledgement
by its sender. -/
theorem noticeRecordsAreSentRetriedAndAcknowledged : Obligations.NoticeRecordsAreSentRetriedAndAcknowledged := by
  refine ⟨fun s n hnodup => ⟨noticeSendEnd_of_not_mem, noticeSendEnd_of_changed hnodup, noticeSendEnd_of_expired hnodup,
    noticeSendEnd_of_retries hnodup⟩, fun s n e hr hnodup hn hwaiting => ?_, fun m s n ha => ?_⟩
  · intro t
    refine ⟨fun hheld => ?_, fun hfree => ?_⟩
    · rw [exec_retryTimerExpiry hr, retryTimerRunsOut_of_held hheld]
    · rw [exec_retryTimerExpiry hr, retryTimerRunsOut_of_waiting hnodup hn hwaiting hfree]
  · have hparams := taken_params m s
    have hnotices := taken_notices m s
    generalize ht : taken m s = t at hparams hnotices
    simp only [← hparams, ← hnotices]
    rw [exec_of_taken (i := .ackNotices m n) rfl (decode_ackNotices n) (by simp) rfl ha ht]
    simp only [perform, doAckNotices, filter_not_ackCovers, apply_ite (answeredBy m _), answeredBy_refusal]
    rfl

end Sys2Proof.Machine

/-! The statement about captures (R169, R171). -/

namespace Sys2Proof.Machine

open Sys2Proof

/-! ### The frames the trap captures (R169) -/

theorem trapConsiders_iff {t : Trap} :
    trapConsiders t = true ↔ t.state = .armed ∨ t.state = .held ∧ t.mode = .continuous := by
  unfold trapConsiders
  cases t.state <;> simp

theorem foundGap_iff {v : Verdict} : foundGap v = true ↔ (∃ d, v = .gap d) ∨ v = .restart := by
  cases v with
  | gap d => exact ⟨fun _ => .inl ⟨d, rfl⟩, fun _ => rfl⟩
  | restart => exact ⟨fun _ => .inr rfl, fun _ => rfl⟩
  | unjudged | first | inOrder | behind | unchecked => exact ⟨nofun, by rintro (⟨_, h⟩ | h) <;> cases h⟩

theorem foundLate_iff {c : Context} : foundLate c = true ↔ c.stampFlags.late = true ∨ c.admission = .late := by
  simp [foundLate]

/-- ANY and ERRORED are met by every frame; GAP and LATE ask for what was found of it. -/
theorem conditionMet_iff {t : Trap} {c : Context} :
    conditionMet t c = true ↔
      (t.condition = .gap → (∃ d, c.verdict = .gap d) ∨ c.verdict = .restart) ∧
        (t.condition = .late → c.stampFlags.late = true ∨ c.admission = .late) := by
  rw [← foundGap_iff, ← foundLate_iff]
  unfold conditionMet
  cases t.condition <;> simp

theorem trapMatches_iff {t : Trap} {c : Context} :
    trapMatches t c = true ↔
      (t.filterTag = none ∨ t.filterTag = some c.tag) ∧ (t.filterKind = none ∨ t.filterKind = some c.kind) ∧
        conditionMet t c = true := by
  unfold trapMatches
  cases t.filterTag <;> cases t.filterKind <;> simp [eq_comm (a := c.tag), eq_comm (a := c.kind), and_assoc]

/-- A frame is captured where it is considered and matches by tag, kind and condition. -/
theorem trapTakes_iff {t : Trap} {c : Context} :
    (trapConsiders t && trapMatches t c) = true ↔
      (t.state = .armed ∨ t.state = .held ∧ t.mode = .continuous) ∧
        (t.filterTag = none ∨ t.filterTag = some c.tag) ∧ (t.filterKind = none ∨ t.filterKind = some c.kind) ∧
        (t.condition = .gap → (∃ d, c.verdict = .gap d) ∨ c.verdict = .restart) ∧
        (t.condition = .late → c.stampFlags.late = true ∨ c.admission = .late) := by
  rw [Bool.and_eq_true, trapConsiders_iff, trapMatches_iff, conditionMet_iff]

/-! ### The end of a capture (R171) -/

theorem endCapture_of_not_filling {s : State} (h : s.trap.state ≠ .filling) (c : Context) (o : EndOutcome)
    (received : Nat) : endCapture c o received s = s := if_neg h

/-- An ERRORED trap drops a GOOD frame. -/
theorem endCapture_of_good {s : State} (h : s.trap.state = .filling) (hcondition : s.trap.condition = .errored)
    (c : Context) (received : Nat) :
    endCapture c .good received s = { s with trap := { s.trap with state := .armed, buffer := [], record := none } } := by
  rw [endCapture, if_pos h, if_pos ⟨hcondition, rfl⟩]

/-- Every other capture is kept. -/
theorem endCapture_of_kept {s : State} {o : EndOutcome} (h : s.trap.state = .filling)
    (hkept : s.trap.condition ≠ .errored ∨ o ≠ .good) (c : Context) (received : Nat) :
    let held :=
      { s with
        trap :=
          { s.trap with
            state := .held
            record := some (captureRecord s.trap c o received)
            generation := s.trap.generation + 1 } }
    endCapture c o received s =
      if s.trap.mode = .oneShot then
        raise .trapFilled none c.tag (detail16 (s.trap.generation + 1) (BitVec.ofNat 16 (min received 65535))) held
      else held := by
  rw [endCapture, if_pos h, if_neg (not_and_or.2 hkept)]
  cases s.trap.mode <;> rfl

/-- Settles O13: the match by the trap's own tests, the end event by the fate of the capture. -/
theorem trapCapturesTheMatchingFrame : Obligations.TrapCapturesTheMatchingFrame := by
  refine ⟨fun c bytes s hlength => ?_, fun c o received s =>
    ⟨fun h => endCapture_of_not_filling h c o received, ?_, fun h hkept => endCapture_of_kept h hkept c received⟩⟩
  · have hbytes : bytes.take trapCapacity = bytes := List.take_of_length_le hlength
    simp only [offerTrap, hbytes, trapTakes_iff]
  · rintro h hcondition rfl
    exact endCapture_of_good h hcondition c received

end Sys2Proof.Machine

/-! The statement about reading, arming and disarming the trap (R168, R172, R173, R177). -/

namespace Sys2Proof.Machine

open Sys2Proof

/-! ### Reading the trap (R172) -/

@[simp] theorem taken_trap (m : Sender) (s : State) : (taken m s).trap = s.trap := restartStaging_trap ..

@[simp] theorem taken_freeCount (m : Sender) (s : State) : (taken m s).freeCount = s.freeCount :=
  restartStaging_freeCount ..

theorem decode_readTrap (offset : BitVec 16) :
    decodeRequest (Request.readTrap offset).code (Request.readTrap offset).operands = some (.readTrap offset) :=
  congrArg (fun v => some (Request.readTrap v)) (join16_extract offset)

theorem doReadTrap_of_idle_or_armed {s : State} (h : s.trap.state = .idle ∨ s.trap.state = .armed)
    (offset : BitVec 16) : doReadTrap offset s = refusal .empty s := by
  unfold doReadTrap
  rcases h with h | h <;> rw [h]

theorem doReadTrap_of_filling {s : State} (h : s.trap.state = .filling) (offset : BitVec 16) :
    doReadTrap offset s = refusal .trapBusy s := by
  rw [doReadTrap, h]

/-- The tag bytes of a filter tag ANY are a free value, and only such an answer uses one. -/
theorem doReadTrap_of_held {s : State} {r : CaptureRecord} (h : s.trap.state = .held) (hr : s.trap.record = some r)
    (offset : BitVec 16) :
    doReadTrap offset s =
      if offset.toNat < s.trap.buffer.length then
        ⟨.ok, trapData s.trap (Config.anyTagBytes s.freeCount) r offset.toNat,
          { s with freeCount := if s.trap.filterTag.isNone then s.freeCount + 1 else s.freeCount }⟩
      else refusal .badValue s := by
  simp only [doReadTrap, h, hr]
  cases s.trap.filterTag <;> rfl

/-- Bits 0 to 4 of the stamp flags, the ERRORED bit left out, as a sum. -/
theorem stampFlagsByte_of_not_errored (f : StampFlags) :
    stampFlagsByte { f with errored := false } =
      (if f.gapBefore then 1 else 0) + (if f.restart then 2 else 0) + (if f.late then 4 else 0) +
        (if f.unaligned then 8 else 0) + (if f.holdover then 16 else 0) := by
  obtain ⟨gapBefore, restart, late, unaligned, holdover, errored⟩ := f
  have hsums : ∀ a b c d e : Bool,
      bitAt 0 a ||| bitAt 1 b ||| bitAt 2 c ||| bitAt 3 d ||| bitAt 4 e ||| bitAt 5 false =
        (if a then 1 else 0) + (if b then 2 else 0) + (if c then 4 else 0) + (if d then 8 else 0) +
          (if e then 16 else 0) := by decide
  exact hsums ..

/-! ### The operands of ARM-TRAP (R168, R177) -/

theorem decode_armTrap (o : TrapOperands) :
    decodeRequest (Request.armTrap o).code (Request.armTrap o).operands = some (.armTrap o) :=
  congrArg (fun tag => some (Request.armTrap { o with tag := tag })) (join16_extract o.tag)

theorem filterTagOf_eq_some_iff {sel : Byte} {tag : Tag} {x : Option Tag} :
    filterTagOf sel tag = some x ↔ sel.toNat ≤ 1 ∧ x = if sel = 0 then some tag else none := by
  have hzero : sel = 0 ↔ sel.toNat = 0 := BitVec.toNat_inj.symm
  simp only [hzero]
  unfold filterTagOf
  split <;> grind

theorem filterKindOf_eq_some_iff {b : Byte} {x : Option Byte} :
    filterKindOf b = some x ↔ b.toNat ≤ 5 ∧ x = if b = 0 then none else some b := by
  unfold filterKindOf
  split <;> grind

theorem trapConditionOf_isSome_iff {b : Byte} : (trapConditionOf b).isSome = true ↔ b.toNat ≤ 3 := by
  unfold trapConditionOf
  split <;> grind

theorem trapConditionByte_of_trapConditionOf {b : Byte} {x : TrapCondition} (h : trapConditionOf b = some x) :
    trapConditionByte x = b := by
  unfold trapConditionOf at h
  split at h <;> cases h <;> exact byteOf_of_eq ‹_›

theorem trapModeOf_isSome_iff {b : Byte} : (trapModeOf b).isSome = true ↔ b.toNat ≤ 1 := by
  unfold trapModeOf
  split <;> grind

theorem trapModeByte_of_trapModeOf {b : Byte} {x : TrapMode} (h : trapModeOf b = some x) : trapModeByte x = b := by
  unfold trapModeOf at h
  split at h <;> cases h <;> exact byteOf_of_eq ‹_›

/-- Codes 2 and 3 are the conditions that ask for DATA frames. -/
theorem conditionFits_iff {x : TrapCondition} {kind : Option Byte} :
    conditionFits x kind = true ↔ (2 ≤ (trapConditionByte x).toNat → kind = some 1) := by
  cases x <;> simp [conditionFits, trapConditionByte]

/-- A setting takes from each operand what it spells. -/
theorem trapSettingOf_eq_some_iff {o : TrapOperands} {x : TrapSetting} :
    trapSettingOf o = some x ↔
      filterTagOf o.tagSelect o.tag = some x.tag ∧ filterKindOf o.kind = some x.kind ∧
        trapConditionOf o.condition = some x.condition ∧ trapModeOf o.mode = some x.mode ∧
        conditionFits x.condition x.kind = true := by
  simp only [trapSettingOf, Option.bind_eq_bind, Option.bind_eq_some_iff, Option.ite_none_right_eq_some,
    Option.some.injEq]
  constructor
  · rintro ⟨tag, htag, kind, hkind, condition, hcondition, mode, hmode, hfits, rfl⟩
    exact ⟨htag, hkind, hcondition, hmode, hfits⟩
  · rintro ⟨htag, hkind, hcondition, hmode, hfits⟩
    exact ⟨_, htag, _, hkind, _, hcondition, _, hmode, hfits, rfl⟩

/-- The operands of an ARM-TRAP spell a setting exactly where each has a meaning, and GAP and LATE go with kind DATA. -/
theorem trapSettingOf_isSome_iff (o : TrapOperands) :
    (trapSettingOf o).isSome = true ↔
      o.tagSelect.toNat ≤ 1 ∧ o.kind.toNat ≤ 5 ∧ o.condition.toNat ≤ 3 ∧ o.mode.toNat ≤ 1 ∧
        (2 ≤ o.condition.toNat → o.kind = 1) := by
  have hkind : (if o.kind = 0 then none else some o.kind) = some 1 ↔ o.kind = 1 := by
    split <;> simp [*]
  constructor
  · intro h
    obtain ⟨x, hx⟩ := Option.isSome_iff_exists.1 h
    obtain ⟨htag, hk, hcondition, hmode, hfits⟩ := trapSettingOf_eq_some_iff.1 hx
    obtain ⟨hselect, -⟩ := filterTagOf_eq_some_iff.1 htag
    obtain ⟨hrange, hxkind⟩ := filterKindOf_eq_some_iff.1 hk
    rw [conditionFits_iff, trapConditionByte_of_trapConditionOf hcondition, hxkind, hkind] at hfits
    exact ⟨hselect, hrange, trapConditionOf_isSome_iff.1 (by simp [hcondition]),
      trapModeOf_isSome_iff.1 (by simp [hmode]), hfits⟩
  · rintro ⟨hselect, hrange, hcondition, hmode, hfits⟩
    obtain ⟨condition, hcondition⟩ := Option.isSome_iff_exists.1 (trapConditionOf_isSome_iff.2 hcondition)
    obtain ⟨mode, hmode⟩ := Option.isSome_iff_exists.1 (trapModeOf_isSome_iff.2 hmode)
    rw [← hkind, ← trapConditionByte_of_trapConditionOf hcondition, ← conditionFits_iff] at hfits
    exact Option.isSome_iff_exists.2 ⟨⟨_, _, condition, mode⟩, trapSettingOf_eq_some_iff.2
      ⟨filterTagOf_eq_some_iff.2 ⟨hselect, rfl⟩, filterKindOf_eq_some_iff.2 ⟨hrange, rfl⟩, hcondition, hmode, hfits⟩⟩

/-! ### The statement -/

/-- Settles O45: READ-TRAP by the trap's state, its record's bytes one by one; ARM-TRAP by whether the operands spell a
setting. -/
theorem trapIsReadArmedAndDisarmed : Obligations.TrapIsReadArmedAndDisarmed := by
  intro m s ha t flag conditionCode modeCode outcomeCode classCode verdictCode admissionCode slotCode record
  have htrap : t.trap = s.trap := taken_trap m s
  have hfree : t.freeCount = s.freeCount := taken_freeCount m s
  have ht : taken m s = t := rfl
  clear_value t
  have hread {offset : BitVec 16} {a : Answer} (h : doReadTrap offset t = a) :
      exec (.readTrap m offset) s = .next (settle (answered m 0x08 a.result a.data false a.state)) :=
    exec_of_answer (i := .readTrap m offset) rfl (decode_readTrap offset) (by simp) ha (ht ▸ h)
  have hverdict (v : Verdict) : verdictByte v :: bytes16 (gapDistance v) = verdictCode v := by cases v <;> rfl
  have hrecord (r : CaptureRecord) : captureRecordBytes r = record r := by
    simp only [captureRecordBytes, stampFlagsByte_of_not_errored, flags_one, record, ← hverdict, List.append_assoc,
      List.cons_append, List.nil_append]
    rfl
  rw [← htrap, ← hfree]
  refine ⟨fun offset => ⟨fun h => ?_, fun h => ?_, fun r hheld hr => ?_⟩, fun o => ⟨fun h => ?_, fun h => ?_⟩, ?_⟩
  · exact hread (a := refusal .empty t) (doReadTrap_of_idle_or_armed h offset)
  · exact hread (a := refusal .trapBusy t) (doReadTrap_of_filling h offset)
  · have hanswer := doReadTrap_of_held hheld hr offset
    refine ⟨fun h => ?_, fun h => ?_⟩
    · exact hread (a := refusal .badValue t) (hanswer.trans (if_neg (Nat.not_lt.2 h)))
    · rw [if_pos h, trapData, hrecord] at hanswer
      refine ⟨Config.anyTagBytes t.freeCount, _, fun hfilter => ?_, hread hanswer⟩
      exact if_neg (by simpa using hfilter)
  · rw [exec_of_taken (i := .armTrap m o) rfl (decode_armTrap o) (by simp) rfl ha ht, perform, doArmTrap,
      Option.not_isSome_iff_eq_none.1 (mt (trapSettingOf_isSome_iff o).1 h)]
    rfl
  · obtain ⟨x, hx⟩ := Option.isSome_iff_exists.1 ((trapSettingOf_isSome_iff o).2 h)
    obtain ⟨htag, hkind, hcondition, hmode, -⟩ := trapSettingOf_eq_some_iff.1 hx
    refine ⟨x.condition, x.mode, trapConditionByte_of_trapConditionOf hcondition, trapModeByte_of_trapModeOf hmode, ?_⟩
    rw [← (filterTagOf_eq_some_iff.1 htag).2, ← (filterKindOf_eq_some_iff.1 hkind).2,
      exec_of_taken (i := .armTrap m o) rfl (decode_armTrap o) (by simp) rfl ha ht, perform, doArmTrap, hx]
    rfl
  · rw [exec_of_taken (i := .disarmTrap m) rfl rfl (by simp) rfl ha ht]
    rfl

end Sys2Proof.Machine

/-! The statement about the step with a command waiting (00_scope.md, Events and operations). -/

namespace Sys2Proof.Machine

open Sys2Proof

/-- Settles O1: a queue with a command at its front is the second case of the step's definition. -/
theorem stepRunsTheFrontCommand : Obligations.StepRunsTheFrontCommand := by
  intro c rest s hqueue
  rw [step, hqueue]

end Sys2Proof.Machine
